-- ==== Sys2Proof/Word.lean ====
section
/-! DEFINITION. The word types of the core: command and register words, bytes, complex integers and
samples (00_scope.md R11, R14; 20_memory.md R72). -/

namespace Sys2Proof

/-- A 32-bit word: a command word, a status register, a response value. -/
abbrev Word := BitVec 32

/-- A 16-bit word: a configuration register, IMM16, N16. -/
abbrev Half := BitVec 16

/-- A byte of a chunk (20_memory.md R72). -/
abbrev Byte := BitVec 8

/-- A log-likelihood ratio: `W_L` = 8 bits, signed (00_scope.md R14, R15). -/
abbrev Llr := BitVec 8

/-- A complex integer, exact (00_scope.md R14: complex arithmetic is exact over the integers). -/
structure Cx where
  re : Int
  im : Int
deriving DecidableEq, Repr

/-- A sample or symbol: a pair of signed `W_S` = 16-bit integers with `F_S` = 12 fraction bits
(00_scope.md R14, 20_memory.md R72). -/
structure Sample where
  re : BitVec 16
  im : BitVec 16
deriving DecidableEq, Repr

namespace Sample

/-- The sample (0, 0). -/
def zero : Sample := ⟨0, 0⟩

/-- The sample whose components are the given integers, which fit 16 signed bits where it is used. -/
def ofInts (re im : Int) : Sample := ⟨BitVec.ofInt 16 re, BitVec.ofInt 16 im⟩

/-- The exact integers a sample's components stand for. -/
def toCx (s : Sample) : Cx := ⟨s.re.toInt, s.im.toInt⟩

end Sample

end Sys2Proof
end

