-- ==== Sys2Proof/Config.lean ====
section
/-! DEFINITION. The implementation parameters of 00_scope.md R9 as plain data: what the read-only space
`ROM` holds (10_state.md R54). The values the spec gives them are in Machine/Tables.lean. A parameter that is a
function is carried as the rows in which a platform's function differs from the spec's default (assumption 4). -/

namespace Sys2Proof

/-- The frame-length class of a profile (00_scope.md R16, `41_bch.md` R163). `platform n` is a class that
a platform adds with a profile of its own ("any modcod can be added"); the spec's test fixtures use
`platform 0` (assumption 17). -/
inductive FrameClass where
  | normal
  | short
  | platform (n : Nat)
deriving DecidableEq, Repr

/-- The code-rate label of a modcod (30_encoding.md R106). `platform n` labels a profile a platform adds. -/
inductive Rate where
  | r1_4 | r1_3 | r2_5 | r1_2 | r3_5 | r2_3 | r3_4 | r4_5 | r5_6 | r8_9 | r9_10
  | platform (n : Nat)
deriving DecidableEq, Repr

/-- A profile record of `P_PROFILE` (00_scope.md R9), with the index (MODCOD, SHORT) it stands at.
`name` is its name (30_encoding.md R106), `order` is M, `eta` is log2 M, `m` and `t` are the BCH field degree and correction capability. -/
structure ProfileRow where
  name : String
  modcod : Nat
  short : Bool
  order : Nat
  eta : Nat
  rate : Rate
  cls : FrameClass
  nldpc : Nat
  kldpc : Nat
  nbch : Nat
  kbch : Nat
  t : Nat
  m : Nat
deriving DecidableEq, Repr

/-- One list `P_BCH_POLY[class]`: minimal polynomials as integers, bit i the coefficient of x^i (41_bch.md
R164, R165, 00_scope.md R13). -/
structure BchPolys where
  cls : FrameClass
  polys : List Nat
deriving DecidableEq, Repr

/-- One address table `P_LDPC_ADDR[class][rate]` (42_ldpc.md R203). -/
structure LdpcTable where
  cls : FrameClass
  rate : Rate
  rows : List (List Nat)
deriving DecidableEq, Repr

/-- One constellation `P_CONST[M, rate]`; `rate = none` stands for every rate (44_mapper.md R252). The point
of label l is element l. -/
structure Constellation where
  order : Nat
  rate : Option Rate
  points : List Sample
deriving DecidableEq, Repr

/-- One row of the tap table `P_RRC` (46_filter.md R297). A tap is a signed integer of `W_T` = 16 bits. -/
structure RrcRow where
  alpha100 : Nat
  sps : Nat
  span : Nat
  taps : List Int
deriving DecidableEq, Repr

/-- `P_ILV[profile]` of one profile: element n is pi(n) (43_interleaver.md R232). -/
structure IlvRow where
  modcod : Nat
  short : Bool
  perm : List Nat
deriving DecidableEq, Repr

/-- A function as a platform supplies it: the argument and value pairs in which it differs from the spec's default
function (00_scope.md R9; assumption 4). The first pair with an argument counts. -/
abbrev FunctionRows (α β : Type) := List (α × β)

/-- The free value of assumption 23: what ILV puts at output index `n` of the frame `x` where `P_ILV` names no element of
`x`. The spec states no bit there. -/
opaque Config.freeBit : (x : List Bool) → (n : Nat) → Bool

/-- The free value of assumption 23: what DEILV puts at index `k` for the frame `y` where `P_ILV` sends no element there. -/
opaque Config.freeLlr : (y : List Llr) → (k : Nat) → Llr

/-- The contents of `ROM`: every parameter of 00_scope.md R9 that is a table or a number. No operation writes
it (10_state.md R54). -/
structure Rom where
  /-- `P_PROFILE`, before the tests for missing tables and well-formedness. -/
  profiles : List ProfileRow
  /-- `P_BCH_POLY`. -/
  bchPolys : List BchPolys
  /-- `P_LDPC_GROUP`. -/
  ldpcGroup : Nat
  /-- `P_LDPC_ADDR`: OPEN in the spec (42_ldpc.md R203). -/
  ldpcAddr : List LdpcTable
  /-- `P_ILV`, for the profiles whose permutation is not that of 43_interleaver.md R232. -/
  ilv : List IlvRow
  /-- `P_CONST`. -/
  constellations : List Constellation
  /-- `P_HDR_LEN`. -/
  hdrLen : Nat
  /-- `P_SLOT_LEN`. -/
  slotLen : Nat
  /-- `P_PILOT_LEN`. -/
  pilotLen : Nat
  /-- `P_PILOT_PERIOD`. -/
  pilotPeriod : Nat
  /-- `P_PILOT_SYM`. -/
  pilotSym : Sample
  /-- `P_SOF`, as an integer: the first header bit is the most significant of its `hdrLen` - 64 bits (45_plframer.md
  R272, R273; the choice of assumption 4 for a `hdrLen` other than 90). -/
  sof : Nat
  /-- `P_PLS_SCR`, scr[1] the most significant bit. -/
  plsScr : BitVec 64
  /-- `P_RRC`. -/
  rrc : List RrcRow
  /-- `P_TXQ_DEPTH`: OPEN in the spec (10_state.md R46). -/
  txqDepth : Nat
  /-- `P_RXQ_DEPTH`, also the capacity of `MFQ`: OPEN in the spec (10_state.md R46). -/
  rxqDepth : Nat
  /-- `P_SPS_MAX`. -/
  spsMax : Nat
  /-- `P_SPAN_MAX`. -/
  spanMax : Nat
  /-- `P_ARG`: x + jy to the angle (47_synchronizer.md R337). -/
  arg : FunctionRows Cx (BitVec 32)
  /-- `P_ROT`: the symbol and theta to the rotated symbol (R338). -/
  rot : FunctionRows (Cx × BitVec 32) Sample
  /-- `P_INTERP`: prev, cur, nxt and tau to the interpolated sample (R341). -/
  interp : FunctionRows (Sample × Sample × Sample × Int) Sample
  /-- `P_CLOOP`: cloop, `C_ACC`, `SINCE`, `W_PHASE` and `W_DPH` to the new (`W_PHASE`, `W_DPH`) (R339). -/
  cloop : FunctionRows (BitVec 16 × Cx × Nat × BitVec 32 × BitVec 32) (BitVec 32 × BitVec 32)
  /-- `P_TLOOP`: tloop, `C_ACC`, `E_ACC`, `L_ACC` and `W_TIMING` to the value before the slip test (R340). -/
  tloop : FunctionRows (BitVec 16 × Cx × Cx × Cx × Int) Int
deriving DecidableEq, Repr

end Sys2Proof
end

