-- ==== Sys2Proof/Syntax.lean ====
section
/-! DEFINITION. The commands: one constructor per row of spec/opcode_table.json, and the pseudo-instructions
of 30_encoding.md R109. -/

namespace Sys2Proof

/-- The 21 commands of 30_encoding.md R103. `idx` is IDX (8 bits), `imm` is IMM16, `mask` the mask of CLREV, `n`
is N16; operands are unsigned and never extended or scaled (R102). -/
inductive Instr where
  | reset
  | cfgw (idx : BitVec 8) (imm : BitVec 16)
  | cfgr (idx : BitVec 8)
  | start
  | stop
  | rdstat (idx : BitVec 8)
  | clrev (mask : BitVec 16)
  | ldbb
  | bchenc
  | ldpcenc
  | ilv
  | map
  | plfrm
  | shape
  | mfilt (n : BitVec 16)
  | sync (n : BitVec 16)
  | demap
  | deilv
  | ldpcdec
  | bchdec
  | stbb
deriving DecidableEq, Repr

/-- The pseudo-instructions of 30_encoding.md R109. `setmodcod` carries the number MODCOD(name) that R106 gives
the name; `setrolloff` carries the roll-off in hundredths. -/
inductive Pseudo where
  | setmodcod (modcod : BitVec 5) (short pilots : Bool)
  | setrolloff (hundredths : BitVec 16)
  | txframe
  | rxdecode
deriving DecidableEq, Repr

end Sys2Proof
end

