-- ==== Sys2Proof/WellFormed.lean ====
section
/-! DEFINITION. Which commands are well formed: the operand constraints of spec/opcode_table.json (checks 3 and
4 of 30_encoding.md R104). An ill-formed command decodes and raises IllegalCommand when executed. -/

namespace Sys2Proof

/-- The operand of the command names something that exists: IDX of CFGW and CFGR is at most 13, IDX of RDSTAT at
most 21, the count of MFILT and SYNC is not 0. -/
def Instr.wellFormed : Instr → Bool
  | .cfgw idx _ => decide (idx.toNat ≤ 13)
  | .cfgr idx => decide (idx.toNat ≤ 13)
  | .rdstat idx => decide (idx.toNat ≤ 21)
  | .mfilt n => decide (n.toNat ≠ 0)
  | .sync n => decide (n.toNat ≠ 0)
  | .reset | .start | .stop | .clrev _ | .ldbb | .bchenc | .ldpcenc | .ilv | .map | .plfrm | .shape
  | .demap | .deilv | .ldpcdec | .bchdec | .stbb => true

end Sys2Proof
end

