-- ==== Sys2Proof/Decode.lean ====
section
/-! DEFINITION. The decoder and the encoder of command words (30_encoding.md R100, R103, R104). -/

namespace Sys2Proof

/-- What the decoder answers: the command, or the first of checks 1 and 2 of 30_encoding.md R104 that fails.
Checks 3 to 7 need the operand's range or the state and are made by the command's meaning, in R104's order
(assumption 7). -/
inductive Decoded where
  | instr (i : Instr)
  | reservedOpcode
  | reservedField
deriving DecidableEq, Repr

/-- The opcode field `w[31:24]` (R100). -/
def opcodeOf (w : BitVec 32) : BitVec 8 := w.extractLsb' 24 8

/-- The field `w[23:16]`: IDX in format R (R100). -/
def idxOf (w : BitVec 32) : BitVec 8 := w.extractLsb' 16 8

/-- The field `w[15:0]`: IMM16 in format R, N16 in format C (R100). -/
def immOf (w : BitVec 32) : BitVec 16 := w.extractLsb' 0 16

/-- Format N: bits 23:0 must be 0. -/
def decodeN (w : BitVec 32) (i : Instr) : Decoded :=
  if idxOf w = 0 ∧ immOf w = 0 then .instr i else .reservedField

/-- Format R with an index and no immediate (CFGR, RDSTAT): bits 15:0 must be 0. -/
def decodeIdx (w : BitVec 32) (i : BitVec 8 → Instr) : Decoded :=
  if immOf w = 0 then .instr (i (idxOf w)) else .reservedField

/-- Formats with a 16-bit operand and no index (CLREV, MFILT, SYNC): bits 23:16 must be 0. -/
def decodeImm (w : BitVec 32) (i : BitVec 16 → Instr) : Decoded :=
  if idxOf w = 0 then .instr (i (immOf w)) else .reservedField

/-- The decoder, total on all 2^32 words (30_encoding.md R103, R104 checks 1 and 2). -/
def decode (w : BitVec 32) : Decoded :=
  match (opcodeOf w).toNat with
  | 0x01 => decodeN w .reset
  | 0x02 => .instr (.cfgw (idxOf w) (immOf w))
  | 0x03 => decodeIdx w .cfgr
  | 0x04 => decodeN w .start
  | 0x05 => decodeN w .stop
  | 0x06 => decodeIdx w .rdstat
  | 0x07 => decodeImm w .clrev
  | 0x10 => decodeN w .ldbb
  | 0x11 => decodeN w .bchenc
  | 0x12 => decodeN w .ldpcenc
  | 0x13 => decodeN w .ilv
  | 0x14 => decodeN w .map
  | 0x15 => decodeN w .plfrm
  | 0x16 => decodeN w .shape
  | 0x20 => decodeImm w .mfilt
  | 0x21 => decodeImm w .sync
  | 0x22 => decodeN w .demap
  | 0x23 => decodeN w .deilv
  | 0x24 => decodeN w .ldpcdec
  | 0x25 => decodeN w .bchdec
  | 0x26 => decodeN w .stbb
  | _ => .reservedOpcode

/-- The command word with the given opcode, IDX field and 16-bit field (R100). -/
def commandWord (opc idx : BitVec 8) (imm : BitVec 16) : BitVec 32 := opc ++ idx ++ imm

/-- The encoder: the word of a command (30_encoding.md R100, R103). -/
def encode : Instr → BitVec 32
  | .reset => commandWord 0x01 0 0
  | .cfgw idx imm => commandWord 0x02 idx imm
  | .cfgr idx => commandWord 0x03 idx 0
  | .start => commandWord 0x04 0 0
  | .stop => commandWord 0x05 0 0
  | .rdstat idx => commandWord 0x06 idx 0
  | .clrev mask => commandWord 0x07 0 mask
  | .ldbb => commandWord 0x10 0 0
  | .bchenc => commandWord 0x11 0 0
  | .ldpcenc => commandWord 0x12 0 0
  | .ilv => commandWord 0x13 0 0
  | .map => commandWord 0x14 0 0
  | .plfrm => commandWord 0x15 0 0
  | .shape => commandWord 0x16 0 0
  | .mfilt n => commandWord 0x20 0 n
  | .sync n => commandWord 0x21 0 n
  | .demap => commandWord 0x22 0 0
  | .deilv => commandWord 0x23 0 0
  | .ldpcdec => commandWord 0x24 0 0
  | .bchdec => commandWord 0x25 0 0
  | .stbb => commandWord 0x26 0 0

/-- The command the decoder reads from the bits `w` of an instruction of `nbits` bits; a command word is one
32-bit value presented whole (20_memory.md R74), so there is no byte order to undo. -/
def decodeTableWord (nbits w : Nat) : Option Instr :=
  match decode (BitVec.ofNat 32 (w % 2 ^ nbits)) with
  | .instr i => some i
  | .reservedOpcode => none
  | .reservedField => none

end Sys2Proof
end

