-- ==== Sys2Proof/Machine/Arith.lean ====
section
/-! DEFINITION. The exact arithmetic of 00_scope.md R10 to R15 and the byte order of 20_memory.md R73:
saturation, rounding, complex integers, bit sequences, bytes. -/

namespace Sys2Proof.Machine

/-- `clamp(v, M)` = max(-M, min(M, v)) (00_scope.md R11). -/
def clampTo (v m : Int) : Int := max (-m) (min m v)

/-- `sat_N(v)`: the nearest value in [-(2^(N-1)-1), 2^(N-1)-1] (00_scope.md R11, symmetric). -/
def satTo (n : Nat) (v : Int) : Int := clampTo v (((2 ^ (n - 1) : Nat) : Int) - 1)

/-- `rnd(x, n)`: floor((x + 2^(n-1)) / 2^n) for n >= 1, and x for n = 0 (00_scope.md R11). -/
def rnd (x : Int) (n : Nat) : Int := if n = 0 then x else (x + ((2 ^ (n - 1) : Nat) : Int)) >>> n

/-- `bitlen(v)`: the number of binary digits of v, 0 for 0 (47_synchronizer.md R336). -/
def bitlen (v : Nat) : Nat := if v = 0 then 0 else Nat.log2 v + 1

/-- The least significant 32 bits of an integer. A signed reading of them is `s32` of R336. -/
def word32 (v : Int) : BitVec 32 := BitVec.ofInt 32 v

/-- A saturating 32-bit increment (10_state.md R42). -/
def satInc (w : Word) : Word := if w = 0xFFFFFFFF then w else w + 1

/-- The sum of two complex integers. -/
def cxAdd (a b : Cx) : Cx := ⟨a.re + b.re, a.im + b.im⟩

/-- `conj((a, b)) * (u, v)` = (a*u + b*v, a*v - b*u) (47_synchronizer.md R320). -/
def conjMul (a u : Cx) : Cx := ⟨a.re * u.re + a.im * u.im, a.re * u.im - a.im * u.re⟩

/-- `|z|^2` = re^2 + im^2 (00_scope.md R14). -/
def normSq (z : Cx) : Int := z.re * z.re + z.im * z.im

/-- The sample whose components are the given integers saturated to 16 bits (`sat_16`, 00_scope.md R11). -/
def satSample (re im : Int) : Sample := Sample.ofInts (satTo 16 re) (satTo 16 im)

/-- A bit sequence read as a number, the first bit the most significant (00_scope.md R13: the first bit is the
coefficient of the highest power). -/
def natOfBits (b : List Bool) : Nat := b.foldl (fun acc x => 2 * acc + x.toNat) 0

/-- The `n` low bits of a number as a bit sequence, the most significant first. -/
def bitsOfNat (n v : Nat) : List Bool := (List.range n).map (fun k => v.testBit (n - 1 - k))

/-- The exclusive-or of a bit sequence (00_scope.md R10). -/
def xorAll (b : List Bool) : Bool := b.foldl Bool.xor false

/-- The bits of a chunk: byte 0 first, the most significant bit of each byte first (20_memory.md R73). -/
def bitsOfBytes (c : List Byte) : List Bool :=
  c.flatMap (fun x => (List.range 8).map (fun j => x.getLsbD (7 - j)))

/-- The first `n` consecutive groups of `k` elements of a list. -/
def groupsOf {α : Type} (k : Nat) : Nat → List α → List (List α)
  | 0, _ => []
  | n + 1, l => l.take k :: groupsOf k n (l.drop k)

/-- The `n` bytes of a bit sequence, 20_memory.md R73 in reverse (`c[i]` = sum over j of b[8*i + j] << (7-j)). -/
def bytesOfBits (n : Nat) (b : List Bool) : List Byte :=
  (groupsOf 8 n b).map (fun g => BitVec.ofNat 8 (natOfBits g))

end Sys2Proof.Machine
end

