-- ==== Sys2Proof/Machine/Tables.lean ====
section
/-! DEFINITION. The tables the spec gives the parameters of 00_scope.md R9: the default contents of `ROM`
(`defaultRom`) and the test configuration of 95_test_vectors.md section 2 (`testRom`). -/

namespace Sys2Proof.Machine

/-- A row of the modcod table (30_encoding.md R106). -/
structure ModcodRow where
  modcod : Nat
  name : String
  order : Nat
  rate : Rate
deriving DecidableEq, Repr

/-- MODCOD, name, modulation order M and rate label of each modcod (30_encoding.md R106). -/
def modcodTable : List ModcodRow :=
  [⟨1, "QPSK1/4", 4, .r1_4⟩, ⟨2, "QPSK1/3", 4, .r1_3⟩, ⟨3, "QPSK2/5", 4, .r2_5⟩, ⟨4, "QPSK1/2", 4, .r1_2⟩,
   ⟨5, "QPSK3/5", 4, .r3_5⟩, ⟨6, "QPSK2/3", 4, .r2_3⟩, ⟨7, "QPSK3/4", 4, .r3_4⟩, ⟨8, "QPSK4/5", 4, .r4_5⟩,
   ⟨9, "QPSK5/6", 4, .r5_6⟩, ⟨10, "QPSK8/9", 4, .r8_9⟩, ⟨11, "QPSK9/10", 4, .r9_10⟩, ⟨12, "8PSK3/5", 8, .r3_5⟩,
   ⟨13, "8PSK2/3", 8, .r2_3⟩, ⟨14, "8PSK3/4", 8, .r3_4⟩, ⟨15, "8PSK5/6", 8, .r5_6⟩, ⟨16, "8PSK8/9", 8, .r8_9⟩,
   ⟨17, "8PSK9/10", 8, .r9_10⟩, ⟨18, "16APSK2/3", 16, .r2_3⟩, ⟨19, "16APSK3/4", 16, .r3_4⟩, ⟨20, "16APSK4/5", 16, .r4_5⟩,
   ⟨21, "16APSK5/6", 16, .r5_6⟩, ⟨22, "16APSK8/9", 16, .r8_9⟩, ⟨23, "16APSK9/10", 16, .r9_10⟩, ⟨24, "32APSK3/4", 32, .r3_4⟩,
   ⟨25, "32APSK4/5", 32, .r4_5⟩, ⟨26, "32APSK5/6", 32, .r5_6⟩, ⟨27, "32APSK8/9", 32, .r8_9⟩, ⟨28, "32APSK9/10", 32, .r9_10⟩]

/-- `MODCOD(name)` of 30_encoding.md R109: the index R106 gives the name. -/
def modcodNumber (name : String) : Option Nat := (modcodTable.find? (fun e => e.name == name)).map (fun e => e.modcod)

/-- Kbch, Nbch and t for each frame-length class and rate (41_bch.md R163). Short 9/10 does not exist. -/
def bchParams : List (FrameClass × Rate × Nat × Nat × Nat) :=
  [(.normal, .r1_4, 16008, 16200, 12), (.normal, .r1_3, 21408, 21600, 12), (.normal, .r2_5, 25728, 25920, 12),
   (.normal, .r1_2, 32208, 32400, 12), (.normal, .r3_5, 38688, 38880, 12), (.normal, .r2_3, 43040, 43200, 10),
   (.normal, .r3_4, 48408, 48600, 12), (.normal, .r4_5, 51648, 51840, 12), (.normal, .r5_6, 53840, 54000, 10),
   (.normal, .r8_9, 57472, 57600, 8), (.normal, .r9_10, 58192, 58320, 8),
   (.short, .r1_4, 3072, 3240, 12), (.short, .r1_3, 5232, 5400, 12), (.short, .r2_5, 6312, 6480, 12),
   (.short, .r1_2, 7032, 7200, 12), (.short, .r3_5, 9552, 9720, 12), (.short, .r2_3, 10632, 10800, 12),
   (.short, .r3_4, 11712, 11880, 12), (.short, .r4_5, 12432, 12600, 12), (.short, .r5_6, 13152, 13320, 12),
   (.short, .r8_9, 14232, 14400, 12)]

/-- `Nldpc` of the two standard classes: "short: 16200 bits; normal: 64800 bits" (42_ldpc.md R201). -/
def standardNldpc : FrameClass → Nat
  | .normal => 64800
  | .short => 16200
  | .platform _ => 0

/-- The degree m of the BCH field: 16 for normal frames, 14 for short ones (41_bch.md R162). -/
def standardM : FrameClass → Nat
  | .normal => 16
  | .short => 14
  | .platform _ => 0

/-- The profile record of a modcod and a standard frame-length class, where the class has that rate. -/
def standardRow (e : ModcodRow) (cls : FrameClass) : Option ProfileRow :=
  (bchParams.find? (fun b => b.1 == cls && b.2.1 == e.rate)).map (fun b =>
    { name := e.name, modcod := e.modcod, short := cls == .short, order := e.order, eta := Nat.log2 e.order, rate := e.rate,
      cls := cls, nldpc := standardNldpc cls, kldpc := b.2.2.2.1, nbch := b.2.2.2.1, kbch := b.2.2.1, t := b.2.2.2.2,
      m := standardM cls })

/-- The profile records of the standard's modcods, normal and short (30_encoding.md R106, 41_bch.md R163). -/
def standardProfiles : List ProfileRow :=
  modcodTable.flatMap (fun e => (standardRow e .normal).toList ++ (standardRow e .short).toList)

/-- `P_BCH_POLY[normal]` (41_bch.md R164). -/
def bchPolysNormal : List Nat :=
  [0x1002D, 0x10173, 0x10FBD, 0x15A55, 0x11F2F, 0x1F7B5, 0x1AF65, 0x17367, 0x10EA1, 0x175A7, 0x13A2D, 0x11AE3]

/-- `P_BCH_POLY[short]` (41_bch.md R165). -/
def bchPolysShort : List Nat :=
  [0x402B, 0x4941, 0x4647, 0x5591, 0x6B55, 0x6389, 0x6CE5, 0x4F21, 0x460F, 0x5A49, 0x5811, 0x65EF]

/-- QPSK (44_mapper.md R248). -/
def qpskPoints : List Sample :=
  [.ofInts 2896 2896, .ofInts 2896 (-2896), .ofInts (-2896) 2896, .ofInts (-2896) (-2896)]

/-- 8PSK (44_mapper.md R249). -/
def psk8Points : List Sample :=
  [.ofInts 2896 2896, .ofInts 4096 0, .ofInts (-4096) 0, .ofInts (-2896) (-2896),
   .ofInts 0 4096, .ofInts 2896 (-2896), .ofInts (-2896) 2896, .ofInts 0 (-4096)]

/-- The four points (x, y), (x, -y), (-x, y), (-x, -y), in the order of 44_mapper.md R250. -/
def quadrants (x y : Int) : List Sample := [.ofInts x y, .ofInts x (-y), .ofInts (-x) y, .ofInts (-x) (-y)]

/-- 16APSK from the magnitudes A, B, C, D of a rate (44_mapper.md R250). -/
def apsk16Points (a b c d : Int) : List Sample := quadrants a a ++ quadrants b c ++ quadrants c b ++ quadrants d d

/-- 32APSK from the magnitudes A to H of a rate (44_mapper.md R251). -/
def apsk32Points (a b c d e f g h : Int) : List Sample :=
  [.ofInts a a, .ofInts c b, .ofInts a (-a), .ofInts c (-b), .ofInts (-a) a, .ofInts (-c) b, .ofInts (-a) (-a), .ofInts (-c) (-b),
   .ofInts f g, .ofInts g f, .ofInts h (-h), .ofInts 0 (-e), .ofInts (-h) h, .ofInts 0 e, .ofInts (-f) (-g), .ofInts (-g) (-f),
   .ofInts b c, .ofInts d d, .ofInts b (-c), .ofInts d (-d), .ofInts (-b) c, .ofInts (-d) d, .ofInts (-b) (-c), .ofInts (-d) (-d),
   .ofInts e 0, .ofInts h h, .ofInts f (-g), .ofInts g (-f), .ofInts (-f) g, .ofInts (-g) f, .ofInts (-e) 0, .ofInts (-h) (-h)]

/-- `P_CONST` (44_mapper.md R248 to R252). -/
def standardConstellations : List Constellation :=
  [⟨4, none, qpskPoints⟩, ⟨8, none, psk8Points⟩,
   ⟨16, some .r2_3, apsk16Points 3290 4494 1204 1044⟩, ⟨16, some .r3_4, apsk16Points 3278 4478 1200 1150⟩,
   ⟨16, some .r4_5, apsk16Points 3273 4471 1198 1190⟩, ⟨16, some .r5_6, apsk16Points 3270 4467 1197 1211⟩,
   ⟨16, some .r8_9, apsk16Points 3265 4460 1195 1256⟩, ⟨16, some .r9_10, apsk16Points 3263 4457 1194 1270⟩,
   ⟨32, some .r3_4, apsk32Points 1993 2722 729 702 5230 4832 2001 3698⟩,
   ⟨32, some .r4_5, apsk32Points 2051 2801 751 754 5193 4797 1987 3672⟩,
   ⟨32, some .r5_6, apsk32Points 2081 2842 762 788 5172 4778 1979 3657⟩,
   ⟨32, some .r8_9, apsk32Points 2131 2911 780 839 5137 4746 1966 3633⟩,
   ⟨32, some .r9_10, apsk32Points 2136 2918 782 844 5134 4743 1965 3630⟩]

/-- The seven rows of the default tap table (46_filter.md R297). -/
def standardRrc : List RrcRow :=
  [⟨35, 2, 4, [1325, -3134, -1964, 14094, 25408, 14094, -1964, -3134, 1325]⟩,
   ⟨35, 2, 8, [47, 222, -590, 594, 1324, -3132, -1963, 14085, 25390, 14085, -1963, -3132, 1324, 594, -590, 222, 47]⟩,
   ⟨35, 4, 8, [33, 218, 157, -156, -417, -242, 420, 1071, 936, -362, -2215, -3091, -1388, 3390, 9959, 15684, 17954,
     15684, 9959, 3390, -1388, -3091, -2215, -362, 936, 1071, 420, -242, -417, -156, 157, 218, 33]⟩,
   ⟨25, 2, 8, [492, -424, -869, 1513, 1229, -3947, -1489, 14410, 24757, 14410, -1489, -3947, 1229, 1513, -869, -424, 492]⟩,
   ⟨25, 4, 8, [348, 163, -300, -700, -615, 99, 1070, 1542, 869, -901, -2791, -3256, -1053, 3898, 10190, 15456, 17507,
     15456, 10190, 3898, -1053, -3256, -2791, -901, 869, 1542, 1070, 99, -615, -700, -300, 163, 348]⟩,
   ⟨20, 2, 8, [634, -879, -875, 1967, 1080, -4282, -1218, 14536, 24445, 14536, -1218, -4282, 1080, 1967, -875, -879, 634]⟩,
   ⟨20, 4, 8, [448, 0, -622, -954, -619, 349, 1391, 1704, 764, -1182, -3028, -3279, -861, 4135, 10280, 15335, 17288,
     15335, 10280, 4135, -861, -3279, -3028, -1182, 764, 1704, 1391, 349, -619, -954, -622, 0, 448]⟩]

/-- The least depth the spec allows a sample queue: L_PL_max * P_SPS_MAX = 33282 * 16 (10_state.md R46). The depths
themselves are OPEN; DESIGN CHOICE: the default ROM takes the least (assumption 3, unsafe). -/
def leastQueueDepth : Nat := 33282 * 16

/-- The default contents of `ROM` (00_scope.md R9). `P_LDPC_ADDR` is OPEN and no table is supplied (42_ldpc.md
R203: a model must not invent a table), so `P_PROFILE` is `none` everywhere until a platform supplies one
(assumptions 1 and 2). -/
def defaultRom : Rom where
  profiles := standardProfiles
  bchPolys := [⟨.normal, bchPolysNormal⟩, ⟨.short, bchPolysShort⟩]
  ldpcGroup := 360
  ldpcAddr := []
  ilv := []
  constellations := standardConstellations
  hdrLen := 90
  slotLen := 90
  pilotLen := 36
  pilotPeriod := 16
  pilotSym := .ofInts 2896 2896
  sof := 0x18D2E82
  plsScr := 0x719D83C953422DFA
  rrc := standardRrc
  txqDepth := leastQueueDepth
  rxqDepth := leastQueueDepth
  spsMax := 16
  spanMax := 32
  arg := []
  rot := []
  interp := []
  cloop := []
  tloop := []

/-- The TOY profile: QPSK at `P_PROFILE(31, 1)` (95_test_vectors.md section 2). Its class and rate label are of
its own kind (assumption 17). -/
def toyRow : ProfileRow where
  name := "TOY"
  modcod := 31
  short := true
  order := 4
  eta := 2
  rate := .platform 0
  cls := .platform 0
  nldpc := 36
  kldpc := 18
  nbch := 18
  kbch := 8
  t := 2
  m := 5

/-- The TOY8 profile: 8PSK, the same codes, at `P_PROFILE(30, 1)` (95_test_vectors.md section 2). -/
def toy8Row : ProfileRow := { toyRow with name := "TOY8", modcod := 30, order := 8, eta := 3 }

/-- The test configuration of 95_test_vectors.md section 2: the default one with the TOY and TOY8 profiles, their
BCH and LDPC tables, group size 6, slot length 6, pilot block 4, pilot period 2. -/
def testRom : Rom :=
  { defaultRom with
    profiles := toyRow :: toy8Row :: standardProfiles
    bchPolys := ⟨.platform 0, [0x25, 0x3D]⟩ :: defaultRom.bchPolys
    ldpcGroup := 6
    ldpcAddr := [⟨.platform 0, .platform 0, [[7, 9, 11], [2, 5, 7], [9, 15, 16]]⟩]
    slotLen := 6
    pilotLen := 4
    pilotPeriod := 2 }

end Sys2Proof.Machine
end

