-- ==== Sys2Proof/Machine/State.lean ====
section
/-! DEFINITION. The state of the core as plain data (10_state.md R20), its fault and refusal reasons, and the state
after reset (70_reset_and_hazards.md R391). -/

namespace Sys2Proof.Machine

/-- Why a step could stop with a fault: no reason exists. Every exception of the spec is taken as a next state, and
"Nothing the host or the radio can do puts the core in a state that needs a reset" (60_exceptions.md R362). -/
inductive Fault where
deriving DecidableEq, Repr

/-- Why a step can be refused. -/
inductive Refusal where
  /-- Raised by the arm of `exec` of a command that has no meaning yet; no arm of this model raises it. Safe: the
  model stops where the hardware goes on. -/
  | notModelled (mnemonic : String)
deriving DecidableEq, Repr

/-- The latched profile `PROF` (10_state.md R36): the record `P_PROFILE(MODCOD, SHORT)` and its extension. -/
structure Prof where
  row : ProfileRow
  pilots : Bool
  alpha100 : Nat
  sps : Nat
  span : Nat
  taps : List Int
  maxiter : Nat
  llrmax : Nat
  llrscale : Nat
  llrshift : Nat
  hard : Bool
  thresh : Nat
  tshift : Nat
  miss : Nat
  cloop : BitVec 16
  tloop : BitVec 16
  /-- `L_PL`, the PL frame length in symbols. -/
  lpl : Nat
  /-- `NSYM` = Nldpc / eta. -/
  nsym : Nat
  /-- `chunk_bytes` = Kbch / 8. -/
  chunkBytes : Nat
deriving DecidableEq, Repr

/-- `SESSION` (10_state.md R22) together with `PROF`, which holds a value exactly while ACTIVE (R36, R391;
assumption 11). -/
inductive Session where
  | idle
  | active (prof : Prof)
deriving DecidableEq, Repr

/-- A response record of `RSP` (30_encoding.md R101). -/
structure Response where
  status : BitVec 8
  value : BitVec 32
deriving DecidableEq, Repr

/-- A sample of `RXQ` or `MFQ` with its gap tag (`GAP`, `GAPLEN`) (10_state.md R47). -/
structure TaggedSample where
  sample : Sample
  gap : Bool
  gapLen : BitVec 32
deriving DecidableEq, Repr

/-- The contents of a FULL `RB1`: the hard decisions and the tag `LDPC_UNCORR` (10_state.md R21). -/
structure TaggedFrame where
  bits : List Bool
  uncorr : Bool
deriving DecidableEq, Repr

/-- `SYNC_STATE` (10_state.md R49). -/
inductive SyncMode where
  | searching
  | locked
deriving DecidableEq, Repr

/-- The synchronization state: `SYNC_STATE`, the committed estimates (10_state.md R49, R50) and the working state
(R51). -/
structure SyncState where
  mode : SyncMode
  estFreq : BitVec 32
  estPhase : BitVec 16
  estTiming : BitVec 16
  pos : Nat
  next : Int
  k : Nat
  wPhase : BitVec 32
  wDph : BitVec 32
  wTiming : BitVec 16
  miss : BitVec 16
  /-- `SINCE`, 16 bits (10_state.md R51). -/
  since : BitVec 16
  /-- The model's own: how often `SINCE` has wrapped since it was last 0, so that the wrap is seen by no operation
  (10_state.md R23; assumption 9). -/
  sinceCarry : Nat
  win : List Sample
  acc : List Sample
  cAcc : Cx
  eAcc : Cx
  lAcc : Cx
deriving DecidableEq, Repr

/-- The synchronization state after a reset (70_reset_and_hazards.md R391), with `WIN` made of `winLen` samples
(0, 0) and the position counter `POS` at `pos`. -/
def SyncState.cleared (winLen pos : Nat) : SyncState where
  mode := .searching
  estFreq := 0
  estPhase := 0
  estTiming := 0
  pos := pos
  next := 0
  k := 0
  wPhase := 0
  wDph := 0
  wTiming := 0
  miss := 0
  since := 0
  sinceCarry := 0
  win := List.replicate winLen Sample.zero
  acc := []
  cAcc := ⟨0, 0⟩
  eAcc := ⟨0, 0⟩
  lAcc := ⟨0, 0⟩

/-- One pending step of an agent outside the core (00_scope.md R7, 20_memory.md R70, assumption 5). -/
inductive AgentStep where
  /-- The host presents a command word on `CMD`. -/
  | command (w : BitVec 32)
  /-- The host raises the stop signal `STOPSIG`. -/
  | stopSignal
  /-- The platform asserts and releases `RSTSIG`. -/
  | hardwareReset
  /-- The host offers a chunk on `BBIN`. -/
  | offerChunk (chunk : List Byte)
  /-- The host says whether `BBOUT` can take a chunk. -/
  | bboutReady (ready : Bool)
  /-- The radio interface asks `TXQ` for one sample. -/
  | radioPop
  /-- The radio interface offers `RXQ` one sample. -/
  | radioPush (s : Sample)
deriving DecidableEq, Repr

/-- The state. The field groups are: the parameter `rom`; the ports, which belong to the other agents; and the core's
own state (INVENTORY.md, '## State'). -/
structure State where
  /-- The read-only tables `ROM` (10_state.md R54); a parameter, never written (assumption 1). -/
  rom : Rom
  /-- The pending steps of the other agents, the next one first (assumption 5). -/
  inputs : List AgentStep
  /-- The chunks offered on `BBIN` and not consumed, the next one first. -/
  bbin : List (List Byte)
  /-- The chunks delivered on `BBOUT`, in order. -/
  bbout : List (List Byte)
  /-- Whether `BBOUT` can take a chunk. -/
  bboutReady : Bool
  /-- The response records produced on `RSP`, in order. -/
  rsp : List Response
  /-- The samples delivered to the radio interface, in order. -/
  radioTx : List Sample
  session : Session
  /-- `cfg[0]` to `cfg[13]` (10_state.md R24). -/
  cfg : Vector (BitVec 16) 14
  tb0 : Option (List Bool)
  tb1 : Option (List Bool)
  tb2 : Option (List Bool)
  tb3 : Option (List Bool)
  tb4 : Option (List Sample)
  tb5 : Option (List Sample)
  rb4 : Option (List Sample)
  rb3 : Option (List Llr)
  rb2 : Option (List Llr)
  rb1 : Option TaggedFrame
  rb0 : Option (List Bool)
  /-- `ST_EVENT`. -/
  event : BitVec 32
  /-- `ST_LASTERR`. -/
  lasterr : BitVec 32
  cntUncorr : BitVec 32
  cntSyncloss : BitVec 32
  cntOverrun : BitVec 32
  cntUnderrun : BitVec 32
  cntTxerr : BitVec 32
  cntLdpcfail : BitVec 32
  cntDropped : BitVec 32
  bchErrcnt : BitVec 32
  ldpcIter : BitVec 32
  stChunk : BitVec 32
  stPllen : BitVec 32
  txq : List Sample
  rxq : List TaggedSample
  mfq : List TaggedSample
  gap : Bool
  gapLen : BitVec 32
  txdl : List Sample
  rxdl : List Sample
  sync : SyncState
deriving DecidableEq, Repr

/-- The machine right after hardware reset (70_reset_and_hazards.md R391), with the default `ROM`, no pending step
and nothing on the ports (assumptions 1, 5, 6). The delay lines and `WIN` have no element while IDLE (assumption 10). -/
def State.reset : State where
  rom := defaultRom
  inputs := []
  bbin := []
  bbout := []
  bboutReady := true
  rsp := []
  radioTx := []
  session := .idle
  cfg := #v[0x0000, 0, 0, 0, 50, 127, 16, 24, 0, 16200, 46, 3, 0x0102, 0x0408]
  tb0 := none
  tb1 := none
  tb2 := none
  tb3 := none
  tb4 := none
  tb5 := none
  rb4 := none
  rb3 := none
  rb2 := none
  rb1 := none
  rb0 := none
  event := 0
  lasterr := 0
  cntUncorr := 0
  cntSyncloss := 0
  cntOverrun := 0
  cntUnderrun := 0
  cntTxerr := 0
  cntLdpcfail := 0
  cntDropped := 0
  bchErrcnt := 0
  ldpcIter := 0
  stChunk := 0
  stPllen := 0
  txq := []
  rxq := []
  mfq := []
  gap := false
  gapLen := 0
  txdl := []
  rxdl := []
  sync := SyncState.cleared 0 0

end Sys2Proof.Machine
end

