-- ==== Sys2Proof/Machine/Exceptions.lean ====
section
/-! DEFINITION. The exceptions of the core, their codes, sub-causes and event bits (60_exceptions.md R351,
10_state.md R39). -/

namespace Sys2Proof.Machine

/-- The sub-causes of ConfigurationError (60_exceptions.md R351). -/
inductive ConfigCause where
  | unknownModcod | reservedBits | badRolloff | badSps | badSpan | noTaps | badMaxiter | badLlr | badMiss
deriving DecidableEq, Repr

/-- The sub-causes of TxChunkError (60_exceptions.md R351). -/
inductive ChunkCause where
  | short | long
deriving DecidableEq, Repr

/-- The sub-causes of IllegalCommand (60_exceptions.md R351). -/
inductive IllegalCause where
  | reservedOpcode | reservedField | badIndex | wrongState | zeroCount
deriving DecidableEq, Repr

/-- The seven exceptions (60_exceptions.md R351). UncorrectableFrame (BCH_CANNOT_CORRECT), SynchronizationLoss
(MISS_LIMIT), StreamUnderrun (TXQ_EMPTY) and StreamOverrun (RXQ_FULL) have one sub-cause each. -/
inductive Exc where
  | configurationError (c : ConfigCause)
  | uncorrectableFrame
  | synchronizationLoss
  | streamUnderrun
  | streamOverrun
  | txChunkError (c : ChunkCause)
  | illegalCommand (c : IllegalCause)
deriving DecidableEq, Repr

/-- The code of an exception: `ST_LASTERR[7:0]`, and 0x80 + code as a response status (60_exceptions.md R351). -/
def excCode : Exc → BitVec 8
  | .configurationError _ => 1
  | .uncorrectableFrame => 2
  | .synchronizationLoss => 3
  | .streamUnderrun => 4
  | .streamOverrun => 5
  | .txChunkError _ => 6
  | .illegalCommand _ => 7

/-- The number of a ConfigurationError sub-cause (60_exceptions.md R351). -/
def configSub : ConfigCause → BitVec 8
  | .unknownModcod => 1
  | .reservedBits => 2
  | .badRolloff => 3
  | .badSps => 4
  | .badSpan => 5
  | .noTaps => 6
  | .badMaxiter => 7
  | .badLlr => 8
  | .badMiss => 9

/-- The number of an IllegalCommand sub-cause (60_exceptions.md R351). -/
def illegalSub : IllegalCause → BitVec 8
  | .reservedOpcode => 1
  | .reservedField => 2
  | .badIndex => 3
  | .wrongState => 4
  | .zeroCount => 5

/-- The sub-cause of an exception: `ST_LASTERR[15:8]` (60_exceptions.md R351). -/
def excSub : Exc → BitVec 8
  | .configurationError c => configSub c
  | .uncorrectableFrame => 1
  | .synchronizationLoss => 1
  | .streamUnderrun => 1
  | .streamOverrun => 1
  | .txChunkError .short => 1
  | .txChunkError .long => 2
  | .illegalCommand c => illegalSub c

/-- `ST_LASTERR` for an exception: code(X) | (sub << 8) (60_exceptions.md R352). -/
def excRecord (e : Exc) : BitVec 32 := (excSub e ++ excCode e).setWidth 32

/-- The event bits of `ST_EVENT` (10_state.md R39). -/
inductive EventBit where
  | cfgerr | uncorr | syncloss | underrun | overrun | txchunk | illegal | lock | ldpcfail | dropped
deriving DecidableEq, Repr

/-- The position of an event bit (10_state.md R39). -/
def eventIndex : EventBit → Nat
  | .cfgerr => 0
  | .uncorr => 1
  | .syncloss => 2
  | .underrun => 3
  | .overrun => 4
  | .txchunk => 5
  | .illegal => 6
  | .lock => 7
  | .ldpcfail => 8
  | .dropped => 9

/-- The event bit an exception sets (60_exceptions.md R351). -/
def excEvent : Exc → EventBit
  | .configurationError _ => .cfgerr
  | .uncorrectableFrame => .uncorr
  | .synchronizationLoss => .syncloss
  | .streamUnderrun => .underrun
  | .streamOverrun => .overrun
  | .txChunkError _ => .txchunk
  | .illegalCommand _ => .illegal

end Sys2Proof.Machine
end

