-- ==== Sys2Proof/Machine/Flags.lean ====
section
/-! DEFINITION. The flags of the core (10_state.md R40): event bits, FULL flags, and the status registers that
RDSTAT reads (R38). -/

namespace Sys2Proof.Machine

/-- The mask of an event bit in `ST_EVENT` (10_state.md R39). -/
def eventMask (b : EventBit) : BitVec 32 := 1 <<< eventIndex b

/-- Sets an event bit; it stays set until CLREV or a reset (10_state.md R39). -/
def withEvent (b : EventBit) (ev : BitVec 32) : BitVec 32 := ev ||| eventMask b

/-- A flag as one bit at position `i` of a 32-bit word. -/
def flagAt (i : Nat) (f : Bool) : BitVec 32 := if f then 1 <<< i else 0

/-- The tag `LDPC_UNCORR`, 0 when `RB1` is EMPTY (10_state.md R38). -/
def ldpcUncorr (s : State) : Bool :=
  match s.rb1 with
  | some f => f.uncorr
  | none => false

/-- `ST_FLAGS` (10_state.md R38): FULL flags of TB0..TB5 at bits 0..5, of RB0..RB4 at bits 8..12, `LDPC_UNCORR` at
bit 16, `GAP` at bit 17. -/
def stFlags (s : State) : BitVec 32 :=
  flagAt 0 s.tb0.isSome ||| flagAt 1 s.tb1.isSome ||| flagAt 2 s.tb2.isSome ||| flagAt 3 s.tb3.isSome |||
  flagAt 4 s.tb4.isSome ||| flagAt 5 s.tb5.isSome ||| flagAt 8 s.rb0.isSome ||| flagAt 9 s.rb1.isSome |||
  flagAt 10 s.rb2.isSome ||| flagAt 11 s.rb3.isSome ||| flagAt 12 s.rb4.isSome |||
  flagAt 16 (ldpcUncorr s) ||| flagAt 17 s.gap

/-- `ST_SESSION` (10_state.md R38). -/
def stSession (s : State) : BitVec 32 :=
  match s.session with
  | .idle => 0
  | .active _ => 1

/-- `ST_SYNC` (10_state.md R38). -/
def stSync (s : State) : BitVec 32 :=
  match s.sync.mode with
  | .searching => 0
  | .locked => 1

/-- The status register with index `i`, 0 to 21 (10_state.md R38); an index that names no register reads 0 here and
never reaches this function from RDSTAT (R136). `EST_TIMING` is shown in bits 15:0. DESIGN CHOICE (assumption 24): a queue
level above 2^32 - 1, possible on a platform with such a depth, is shown modulo 2^32. -/
def statRead (s : State) (i : Nat) : BitVec 32 :=
  match i with
  | 0 => stSession s
  | 1 => stSync s
  | 2 => stFlags s
  | 3 => s.event
  | 4 => s.lasterr
  | 5 => s.cntUncorr
  | 6 => s.cntSyncloss
  | 7 => s.cntOverrun
  | 8 => s.cntUnderrun
  | 9 => s.cntTxerr
  | 10 => s.cntLdpcfail
  | 11 => s.cntDropped
  | 12 => s.bchErrcnt
  | 13 => s.ldpcIter
  | 14 => s.sync.estFreq
  | 15 => s.sync.estPhase.setWidth 32
  | 16 => s.sync.estTiming.setWidth 32
  | 17 => s.sync.miss.setWidth 32
  | 18 => BitVec.ofNat 32 s.txq.length
  | 19 => BitVec.ofNat 32 s.rxq.length
  | 20 => s.stChunk
  | 21 => s.stPllen
  | _ => 0

end Sys2Proof.Machine
end

