-- ==== Sys2Proof/Machine/Ops.lean ====
section
/-! DEFINITION. The shared operations: producing a response, taking and acknowledging an exception, the session
preamble of a command, access to the configuration registers, and the resets (40_session_control.md R130, R131,
R135; 60_exceptions.md R352, R367; 70_reset_and_hazards.md R392). -/

namespace Sys2Proof.Machine

/-- What a step answers. -/
abbrev StepResult := Host.Outcome State Fault Refusal

/-- `respond(status, value)`: one record on `RSP` (30_encoding.md R101). -/
def respond (status : BitVec 8) (value : BitVec 32) (s : State) : State :=
  { s with rsp := s.rsp ++ [⟨status, value⟩] }

/-- The command ends with status `OK` (0x00). -/
def respondOk (value : BitVec 32) (s : State) : StepResult := .next (respond 0x00 value s)

/-- The command is not enabled: `respond(BUSY, 0)`, and nothing else changes (30_encoding.md R101, R104 check 6). -/
def respondBusy (s : State) : StepResult := .next (respond 0x01 0 s)

/-- A counter that is incremented, saturating, when `hit` holds (10_state.md R42). -/
def bumpIf (hit : Bool) (c : BitVec 32) : BitVec 32 := if hit then satInc c else c

/-- Whether an exception is a TxChunkError, of either sub-cause. -/
def isTxChunk : Exc → Bool
  | .txChunkError _ => true
  | _ => false

/-- Taking an exception (60_exceptions.md R352, R366): `ST_LASTERR`, the sticky event bit and the counter of the
exception (R351), in one atomic update. No state is saved and no control moves. -/
def raiseExc (e : Exc) (s : State) : State :=
  { s with
    lasterr := excRecord e
    event := withEvent (excEvent e) s.event
    cntUncorr := bumpIf (e == .uncorrectableFrame) s.cntUncorr
    cntSyncloss := bumpIf (e == .synchronizationLoss) s.cntSyncloss
    cntUnderrun := bumpIf (e == .streamUnderrun) s.cntUnderrun
    cntOverrun := bumpIf (e == .streamOverrun) s.cntOverrun
    cntTxerr := bumpIf (isTxChunk e) s.cntTxerr }

/-- An exception that ends a command: taken, and reported as the response (0x80 + code, sub) (60_exceptions.md
R352). -/
def failWith (e : Exc) (s : State) : StepResult :=
  .next (respond (0x80 + excCode e) ((excSub e).setWidth 32) (raiseExc e s))

/-- Acknowledging events (60_exceptions.md R367, the only counterpart of a return; 40_session_control.md R137): the
event bits whose mask bit is 1 are cleared. -/
def acknowledge (mask : BitVec 16) (s : State) : State :=
  { s with event := s.event &&& ~~~(mask.setWidth 32) }

/-- Check 5 of 30_encoding.md R104 for a command that needs ACTIVE: the meaning `f` runs with the latched `PROF`, or
IllegalCommand(WRONG_STATE) is raised. -/
def whenActive (s : State) (f : Prof → StepResult) : StepResult :=
  match s.session with
  | .idle => failWith (.illegalCommand .wrongState) s
  | .active p => f p

/-- Check 5 of 30_encoding.md R104 for a command that needs IDLE. -/
def whenIdle (s : State) (r : StepResult) : StepResult :=
  match s.session with
  | .idle => r
  | .active _ => failWith (.illegalCommand .wrongState) s

/-- Check 3 of 30_encoding.md R104: the index names a register, or IllegalCommand(BAD_INDEX) is raised. -/
def whenIndex (idx : BitVec 8) (last : Nat) (s : State) (r : StepResult) : StepResult :=
  if idx.toNat ≤ last then r else failWith (.illegalCommand .badIndex) s

/-- Check 4 of 30_encoding.md R104: the count is not 0, or IllegalCommand(ZERO_COUNT) is raised. -/
def whenCount (n : BitVec 16) (s : State) (r : StepResult) : StepResult :=
  if n.toNat = 0 then failWith (.illegalCommand .zeroCount) s else r

/-- Read of configuration register `i` (10_state.md R24); an index above 13 names no register and reads 0 here, and
never reaches this function from a command (R133). -/
def cfgRead (s : State) (i : Nat) : BitVec 16 := if h : i < 14 then s.cfg[i] else 0

/-- Write of configuration register `i`, all 16 bits, no legality check (10_state.md R24). -/
def cfgWrite (i : Nat) (v : BitVec 16) (s : State) : State := { s with cfg := s.cfg.setIfInBounds i v }

/-- The effect START, STOP and RESET share (10_state.md R21, R43, R46 to R48, R52; 40_session_control.md R134, R135):
every frame buffer EMPTY, queues empty, no gap pending, the delay lines zero with `txLen` and `rxLen` elements, the
synchronization state reset with `POS` = 0 and a `WIN` of `winLen` elements, `BCH_ERRCNT` and `LDPC_ITER` 0. -/
def clearStreams (txLen rxLen winLen : Nat) (s : State) : State :=
  { s with
    tb0 := none, tb1 := none, tb2 := none, tb3 := none, tb4 := none, tb5 := none
    rb4 := none, rb3 := none, rb2 := none, rb1 := none, rb0 := none
    txq := [], rxq := [], mfq := []
    gap := false, gapLen := 0
    txdl := List.replicate txLen Sample.zero
    rxdl := List.replicate rxLen Sample.zero
    sync := SyncState.cleared winLen 0
    bchErrcnt := 0, ldpcIter := 0 }

/-- The effect of STOP and of the stop signal (40_session_control.md R135). While IDLE no span is latched, so the
delay lines and `WIN` have no element (assumption 10). -/
def stopSession (s : State) : State :=
  { clearStreams 0 0 0 s with stChunk := 0, stPllen := 0, session := .idle }

/-- The effect of RESET and of hardware reset (40_session_control.md R131, 70_reset_and_hazards.md R390): every item
of state takes its reset value; `ROM` and the ports of the other agents are not state of the core and stay. -/
def resetCore (s : State) : State :=
  { State.reset with
    rom := s.rom
    inputs := s.inputs
    bbin := s.bbin
    bbout := s.bbout
    bboutReady := s.bboutReady
    rsp := s.rsp
    radioTx := s.radioTx }

end Sys2Proof.Machine
end

