-- ==== Sys2Proof/Machine/Operands.lean ====
section
/-! DEFINITION. What the commands take as operands besides their own fields: the fields of the configuration
registers (10_state.md R25 to R34) and the records and tables of `ROM` a profile selects (00_scope.md R9, 10_state.md
R37). -/

namespace Sys2Proof.Machine

/-- The field `[hi:lo]` of a configuration register (00_scope.md R11), as a number. -/
def cfgField (s : State) (i hi lo : Nat) : Nat := ((cfgRead s i).toNat >>> lo) % 2 ^ (hi - lo + 1)

/-- MODCOD: `cfg[0][4:0]` (10_state.md R25). -/
def cfgModcod (s : State) : Nat := cfgField s 0 4 0
/-- SHORT: `cfg[0][5]` (10_state.md R25). -/
def cfgShort (s : State) : Bool := cfgField s 0 5 5 == 1
/-- PILOTS: `cfg[0][6]` (10_state.md R25). -/
def cfgPilots (s : State) : Bool := cfgField s 0 6 6 == 1
/-- ALPHA100: `cfg[1][6:0]` (10_state.md R26). -/
def cfgAlpha (s : State) : Nat := cfgField s 1 6 0
/-- Samples per symbol: `cfg[2]` (10_state.md R27). -/
def cfgSps (s : State) : Nat := (cfgRead s 2).toNat
/-- The filter span: `cfg[3]` (10_state.md R27). -/
def cfgSpan (s : State) : Nat := (cfgRead s 3).toNat
/-- LLRSHIFT: `cfg[7][5:0]` (10_state.md R30). -/
def cfgLlrshift (s : State) : Nat := cfgField s 7 5 0
/-- HARD: `cfg[8][0]` (10_state.md R31). -/
def cfgHard (s : State) : Bool := cfgField s 8 0 0 == 1
/-- TSHIFT: `cfg[10][5:0]` (10_state.md R32). -/
def cfgTshift (s : State) : Nat := cfgField s 10 5 0

/-- The reserved fields START checks (40_session_control.md R134, first line). -/
def cfgReservedSet (s : State) : Bool :=
  cfgField s 0 15 7 != 0 || cfgField s 1 15 7 != 0 || cfgField s 7 15 6 != 0 || cfgField s 8 15 1 != 0 ||
  cfgField s 10 15 6 != 0

/-- `P_BCH_POLY[class]`; empty where `ROM` holds no list for the class. -/
def bchPolysOf (rom : Rom) (cls : FrameClass) : List Nat :=
  match rom.bchPolys.find? (fun e => e.cls == cls) with
  | some e => e.polys
  | none => []

/-- `P_LDPC_ADDR[class][rate]`, where it is supplied. -/
def ldpcRowsOf (rom : Rom) (cls : FrameClass) (rate : Rate) : Option (List (List Nat)) :=
  (rom.ldpcAddr.find? (fun e => e.cls == cls && e.rate == rate)).map (fun e => e.rows)

/-- `P_CONST[M, rate]`; empty where `ROM` holds no such table (44_mapper.md R252). -/
def pointsOf (rom : Rom) (order : Nat) (rate : Rate) : List Sample :=
  match rom.constellations.find? (fun c => c.order == order && (c.rate == none || c.rate == some rate)) with
  | some c => c.points
  | none => []

/-- `npar` = Nldpc - Kldpc (42_ldpc.md R201). -/
def nparOf (r : ProfileRow) : Nat := r.nldpc - r.kldpc

/-- `q` = npar / G (42_ldpc.md R201). -/
def qOf (rom : Rom) (r : ProfileRow) : Nat := nparOf r / rom.ldpcGroup

/-- `NSYM` = Nldpc / eta (10_state.md R37). -/
def nsymOf (r : ProfileRow) : Nat := r.nldpc / r.eta

/-- The well-formedness of a profile record: the conditions of 10_state.md R37 and 93_implementation_defined.md U19.
DESIGN CHOICE (assumption 16): R37 says "only if", and the model asks for five more that it does not state, eta > 0,
Kbch > 0, Kldpc < Nldpc, a slot length and a group size that are not 0; a record without one of them is `none`. -/
def rowWellFormed (rom : Rom) (r : ProfileRow) : Bool :=
  decide (0 < r.eta) && decide (r.order = 2 ^ r.eta) && decide (0 < r.kbch) && decide (r.kbch % 8 = 0) &&
  decide (r.nbch = r.kbch + r.m * r.t) && decide (r.nbch ≤ 2 ^ r.m - 1) && decide (r.kldpc = r.nbch) &&
  decide (r.kldpc < r.nldpc) && decide (r.nldpc % r.eta = 0) && decide (0 < rom.slotLen) &&
  decide (nsymOf r % rom.slotLen = 0) && decide (0 < rom.ldpcGroup) && decide (r.kldpc % rom.ldpcGroup = 0) &&
  decide (nparOf r % rom.ldpcGroup = 0)

/-- The address table of a profile is supplied and has the shape of 42_ldpc.md R203 and R204: Kldpc / G rows, each of
distinct integers in 0 .. npar-1. (Then the values (x + o*q) mod npar of a row are distinct for every offset o.) -/
def ldpcTablePresent (rom : Rom) (r : ProfileRow) : Bool :=
  match ldpcRowsOf rom r.cls r.rate with
  | none => false
  | some rows =>
    decide (rows.length = r.kldpc / rom.ldpcGroup) &&
    rows.all (fun row => row.all (fun x => decide (x < nparOf r)) && decide row.Nodup)

/-- The BCH polynomials of a profile are supplied: the first t of its class, each of degree m (41_bch.md R161). -/
def bchTablePresent (rom : Rom) (r : ProfileRow) : Bool :=
  decide (r.t ≤ (bchPolysOf rom r.cls).length) && decide (0 < r.t) &&
  ((bchPolysOf rom r.cls).take r.t).all (fun g => Nat.log2 g == r.m)

/-- The permutation a platform supplies for a profile, where it supplies one (00_scope.md R9, `P_ILV`). -/
def ilvRowOf (rom : Rom) (r : ProfileRow) : Option (List Nat) :=
  (rom.ilv.find? (fun e => e.modcod == r.modcod && e.short == r.short)).map (fun e => e.perm)

/-- Every table a profile needs is supplied (30_encoding.md R106, 93_implementation_defined.md U3, U5). `P_ILV` is not
looked at: the core "raises nothing if a platform's tables were inconsistent" (43_interleaver.md R237). -/
def tablesPresent (rom : Rom) (r : ProfileRow) : Bool :=
  bchTablePresent rom r && ldpcTablePresent rom r && decide ((pointsOf rom r.order r.rate).length = r.order)

/-- `P_PROFILE(MODCOD, SHORT)`: the record, or `none` where there is no record, a record that is not well formed
("`P_PROFILE` returns only well-formed records", 10_state.md R37) or a missing table (30_encoding.md R106). MODCOD 0
names no modcod in any configuration (R106). -/
def profileLookup (rom : Rom) (modcod : Nat) (short : Bool) : Option ProfileRow :=
  if modcod = 0 then none else
  match rom.profiles.find? (fun r => r.modcod == modcod && r.short == short) with
  | none => none
  | some r => if rowWellFormed rom r && tablesPresent rom r then some r else none

/-- The number of taps N_T = span * sps + 1 (46_filter.md R296). -/
def tapCount (sps span : Nat) : Nat := span * sps + 1

/-- A tap list has the shape of 46_filter.md R296: N_T taps, symmetric, each a signed 16-bit integer. -/
def tapsWellFormed (sps span : Nat) (taps : List Int) : Bool :=
  decide (taps.length = tapCount sps span) && decide (taps.reverse = taps) &&
  taps.all (fun h => decide (-32768 ≤ h) && decide (h ≤ 32767))

/-- `P_RRC[alpha100, sps, span]`, or `none` (46_filter.md R297). -/
def rrcLookup (rom : Rom) (alpha100 sps span : Nat) : Option (List Int) :=
  match rom.rrc.find? (fun e => e.alpha100 == alpha100 && e.sps == sps && e.span == span) with
  | none => none
  | some e => if tapsWellFormed sps span e.taps then some e.taps else none

/-- The number of data slots S = NSYM / `P_SLOT_LEN` (45_plframer.md R278). -/
def slotsOf (rom : Rom) (r : ProfileRow) : Nat := nsymOf r / rom.slotLen

/-- The number of pilot blocks NP of a frame of S slots (45_plframer.md R274). DESIGN CHOICE (assumption 22): where a
platform's `P_PILOT_PERIOD` is 0, for which floor((S - 1) / 0) and s mod 0 have no meaning, a frame has no pilot block. -/
def pilotBlocks (rom : Rom) (r : ProfileRow) (pilots : Bool) : Nat :=
  if pilots then (slotsOf rom r - 1) / rom.pilotPeriod else 0

/-- The PL frame length in symbols `L_PL` (45_plframer.md R279). -/
def plLength (rom : Rom) (r : ProfileRow) (pilots : Bool) : Nat :=
  rom.hdrLen + slotsOf rom r * rom.slotLen + pilotBlocks rom r pilots * rom.pilotLen

/-- The number of elements of `WIN`: (P_HDR_LEN + 1) * sps (10_state.md R51). -/
def winLength (rom : Rom) (sps : Nat) : Nat := (rom.hdrLen + 1) * sps

end Sys2Proof.Machine
end

