-- ==== Sys2Proof/Machine/Bch.lean ====
section
/-! DEFINITION. The BCH encoder and decoder, BCHENC and BCHDEC (41_bch.md). -/

namespace Sys2Proof.Machine

/-- The product of two polynomials over GF(2), as integers (00_scope.md R13). -/
def polyMul (a b : Nat) : Nat :=
  (List.range (bitlen b)).foldl (fun acc i => if b.testBit i then acc ^^^ (a <<< i) else acc) 0

/-- The generator polynomial g = g_1 * ... * g_t (41_bch.md R161). -/
def bchGenerator (polys : List Nat) (t : Nat) : Nat := (polys.take t).foldl polyMul 1

/-- One step of the shift register of 41_bch.md R169, for a message bit. -/
def bchShift (r gLow reg : Nat) (u : Bool) : Nat :=
  let shifted := (reg <<< 1) % 2 ^ r
  if u != reg.testBit (r - 1) then shifted ^^^ gLow else shifted

/-- The parity of a message under the generator `g` of degree `r`, as an integer: the final register of 41_bch.md
R169, bit r-1-k being d[k]. -/
def bchParity (r g : Nat) (u : List Bool) : Nat := u.foldl (bchShift r (g ^^^ 2 ^ r)) 0

/-- The codeword u ++ d (41_bch.md R168, R169). -/
def bchEncode (r g : Nat) (u : List Bool) : List Bool := u ++ bitsOfNat r (bchParity r g u)

/-- The generator polynomial of a profile (41_bch.md R161). -/
def profGenerator (rom : Rom) (p : Prof) : Nat := bchGenerator (bchPolysOf rom p.row.cls) p.row.t

/-- BCHENC (41_bch.md R170). -/
def execBchenc (s : State) : StepResult :=
  whenActive s fun p =>
    match s.tb0, s.tb1 with
    | some u, none =>
      respondOk 0 { s with tb0 := none, tb1 := some (bchEncode (p.row.m * p.row.t) (profGenerator s.rom p) u) }
    | _, _ => respondBusy s

/-- A finite field GF(2^m) = GF(2)[x] / (poly) (00_scope.md R13, 41_bch.md R162). -/
structure GField where
  m : Nat
  poly : Nat
deriving DecidableEq, Repr

/-- Multiplication by alpha, the class of x. -/
def gfMulAlpha (f : GField) (a : Nat) : Nat :=
  let d := a <<< 1
  if d.testBit f.m then d ^^^ f.poly else d

/-- Multiplication in the field: the sum of b_i * alpha^i * a. -/
def gfMul (f : GField) (a b : Nat) : Nat :=
  ((List.range f.m).foldl
    (fun (acc : Nat × Nat) i => (if b.testBit i then acc.1 ^^^ acc.2 else acc.1, gfMulAlpha f acc.2)) (0, a)).1

/-- The inverse of a nonzero field element, a^(2^m - 2): the product of a^(2^i) for i = 1 .. m-1. -/
def gfInv (f : GField) (a : Nat) : Nat :=
  ((List.range (f.m - 1)).foldl
    (fun (acc : Nat × Nat) _ => let sq := gfMul f acc.2 acc.2; (gfMul f acc.1 sq, sq)) (1, a)).1

/-- The powers 1, x, x^2, ..., `n` of them. -/
def gfPowers (f : GField) (x : Nat) : Nat → Nat → List Nat
  | 0, _ => []
  | n + 1, cur => cur :: gfPowers f x n (gfMul f cur x)

/-- The value at `x` of the polynomial a bit sequence is (00_scope.md R13), by Horner's rule. -/
def evalBits (f : GField) (x : Nat) (y : List Bool) : Nat :=
  y.foldl (fun acc b => gfMul f acc x ^^^ b.toNat) 0

/-- The syndromes S_1 .. S_2t of a received word: S_j = y(alpha^j) (41_bch.md R176). -/
def syndromes (f : GField) (t : Nat) (y : List Bool) : List Nat :=
  (gfPowers f 2 (2 * t) 2).map (fun x => evalBits f x y)

/-- The exclusive-or of two coefficient lists, the shorter one continued with zeros. -/
def polyXor : List Nat → List Nat → List Nat
  | [], b => b
  | a, [] => a
  | x :: a, y :: b => (x ^^^ y) :: polyXor a b

/-- The variables of the Berlekamp-Massey iteration (41_bch.md R177). -/
structure BmState where
  lambda : List Nat
  b : List Nat
  len : Nat
  gap : Nat
  lastD : Nat
deriving DecidableEq, Repr

/-- The discrepancy d of iteration `n`: S_(n+1) ^ XOR over i = 1 .. L of Lambda[i] * S_(n+1-i) (41_bch.md R177); `syn`
holds S_1 first. -/
def bmDiscrepancy (f : GField) (syn : List Nat) (n : Nat) (st : BmState) : Nat :=
  (List.range st.len).foldl
    (fun acc i => acc ^^^ gfMul f (st.lambda.getD (i + 1) 0) (if i + 1 ≤ n then syn.getD (n - (i + 1)) 0 else 0))
    (syn.getD n 0)

/-- One iteration of Berlekamp-Massey (41_bch.md R177). -/
def bmStep (f : GField) (syn : List Nat) (st : BmState) (n : Nat) : BmState :=
  let d := bmDiscrepancy f syn n st
  if d = 0 then { st with gap := st.gap + 1 }
  else
    let c := gfMul f d (gfInv f st.lastD)
    let lambda := polyXor st.lambda (List.replicate st.gap 0 ++ st.b.map (gfMul f c))
    if 2 * st.len ≤ n then { lambda := lambda, b := st.lambda, len := n + 1 - st.len, gap := 1, lastD := d }
    else { st with lambda := lambda, gap := st.gap + 1 }

/-- A coefficient list without its trailing zeros (41_bch.md R177). -/
def trimZeros (l : List Nat) : List Nat := (l.reverse.dropWhile (· == 0)).reverse

/-- The error-locator polynomial and its expected number of roots L, or `none` where the iteration fails (41_bch.md
R177). -/
def bmLocator (f : GField) (t : Nat) (syn : List Nat) : Option (List Nat × Nat) :=
  let st := (List.range (2 * t)).foldl (bmStep f syn) ⟨[1], [1], 0, 1, 1⟩
  let lambda := trimZeros st.lambda
  if lambda.length - 1 ≠ st.len ∨ st.len > t then none else some (lambda, st.len)

/-- The value of a coefficient list (lowest power first) at `x`. -/
def evalPoly (f : GField) (x : Nat) (l : List Nat) : Nat := l.foldr (fun c acc => gfMul f acc x ^^^ c) 0

/-- The Chien search (41_bch.md R178): for each index i of a word of `n` bits, whether
Lambda(alpha^(-(n-1-i))) = 0. -/
def chienFlags (f : GField) (lambda : List Nat) (n : Nat) : List Bool :=
  ((gfPowers f (gfInv f 2) n 1).map (fun x => evalPoly f x lambda == 0)).reverse

/-- The decoder of radius t (41_bch.md R175) by the reference algorithm R176 to R178, with the recomputed syndromes of
R179 as a safety net: the corrected word and the number of flipped bits, or `none` for CannotCorrect. -/
def bchDecode (f : GField) (t : Nat) (y : List Bool) : Option (List Bool × Nat) :=
  let syn := syndromes f t y
  if syn.all (· == 0) then some (y, 0)
  else match bmLocator f t syn with
    | none => none
    | some (lambda, len) =>
      let flips := chienFlags f lambda y.length
      if flips.count true ≠ len then none
      else
        let c := List.zipWith Bool.xor y flips
        if (syndromes f t c).all (· == 0) then some (c, len) else none

/-- The field of a profile's BCH code: degree m, modulus g_1 (41_bch.md R162). -/
def profField (rom : Rom) (p : Prof) : GField := ⟨p.row.m, (bchPolysOf rom p.row.cls).headD 0⟩

/-- BCHDEC (41_bch.md R180, 60_exceptions.md R356). -/
def execBchdec (s : State) : StepResult :=
  whenActive s fun p =>
    match s.rb1, s.rb0 with
    | some y, none =>
      match bchDecode (profField s.rom p) p.row.t y.bits with
      | some (c, e) =>
        respondOk (BitVec.ofNat 32 e)
          { s with rb1 := none, rb0 := some (c.take p.row.kbch), bchErrcnt := BitVec.ofNat 32 e }
      | none => failWith .uncorrectableFrame { s with rb1 := none, bchErrcnt := 0xFFFFFFFF }
    | _, _ => respondBusy s

end Sys2Proof.Machine
end

