-- ==== Sys2Proof/Machine/Filter.lean ====
section
/-! DEFINITION. The pulse-shaping filter and the matched filter, SHAPE and MFILT (46_filter.md). -/

namespace Sys2Proof.Machine

/-- acc(p) for one component: the sum over j = 0 .. span with p + j*sps <= N_T - 1 of h[p + j*sps] * d[j], exact
(46_filter.md R299). -/
def shapeAcc (taps : List Int) (sps span p : Nat) (d : List Int) : Int :=
  ((List.range (span + 1)).map (fun j =>
    if p + j * sps < taps.length then taps.getD (p + j * sps) 0 * d.getD j 0 else 0)).sum

/-- The output sample of phase `p` for the symbols `d`, the newest first (46_filter.md R299). -/
def shapeSample (taps : List Int) (sps span p : Nat) (d : List Sample) : Sample :=
  satSample (rnd (shapeAcc taps sps span p (d.map (fun x => x.re.toInt))) 15)
    (rnd (shapeAcc taps sps span p (d.map (fun x => x.im.toInt))) 15)

/-- The sps output samples for the new symbol `x` (46_filter.md R299). -/
def shapeSymbol (taps : List Int) (sps span : Nat) (dl : List Sample) (x : Sample) : List Sample :=
  (List.range sps).map (fun p => shapeSample taps sps span p (x :: dl))

/-- The delay line after the new symbol `x`: d[0 .. span-1] (46_filter.md R299). -/
def shiftIn (len : Nat) (x : Sample) (dl : List Sample) : List Sample := (x :: dl).take len

/-- The samples of a frame and the delay line after it (46_filter.md R300). -/
def shapeFrame (taps : List Int) (sps span : Nat) : List Sample → List Sample → List Sample × List Sample
  | [], dl => ([], dl)
  | x :: rest, dl =>
    let r := shapeFrame taps sps span rest (shiftIn span x dl)
    (shapeSymbol taps sps span dl x ++ r.1, r.2)

/-- SHAPE (46_filter.md R300): BUSY while `TXQ` has fewer than L_PL * sps free places. -/
def execShape (s : State) : StepResult :=
  whenActive s fun p =>
    match s.tb5 with
    | some f =>
      if s.txq.length + p.lpl * p.sps ≤ s.rom.txqDepth then
        let r := shapeFrame p.taps p.sps p.span f s.txdl
        respondOk (BitVec.ofNat 32 (p.lpl * p.sps)) { s with tb5 := none, txq := s.txq ++ r.1, txdl := r.2 }
      else respondBusy s
    | none => respondBusy s

/-- The sum over i of h[i] * e[i], exact (46_filter.md R303). -/
def firAcc (taps : List Int) (e : List Int) : Int := (List.zipWith (· * ·) taps e).sum

/-- The matched-filter output for the samples `e`, the newest first (46_filter.md R303). -/
def mfiltSample (taps : List Int) (e : List Sample) : Sample :=
  satSample (rnd (firAcc taps (e.map (fun x => x.re.toInt))) 15) (rnd (firAcc taps (e.map (fun x => x.im.toInt))) 15)

/-- The loop of MFILT over the samples taken from `RXQ`: the output samples, each with its input's gap tag, and the
delay line after them (46_filter.md R303). `len` is N_T - 1. -/
def mfiltRun (taps : List Int) (len : Nat) : List TaggedSample → List Sample → List TaggedSample × List Sample
  | [], dl => ([], dl)
  | x :: rest, dl =>
    let r := mfiltRun taps len rest (shiftIn len x.sample dl)
    ({ x with sample := mfiltSample taps (x.sample :: dl) } :: r.1, r.2)

/-- MFILT n (46_filter.md R303): BUSY unless `RXQ` holds n samples and `MFQ` has n free places; never a part of n. -/
def execMfilt (n : BitVec 16) (s : State) : StepResult :=
  whenCount n s <| whenActive s fun p =>
    if n.toNat ≤ s.rxq.length ∧ s.mfq.length + n.toNat ≤ s.rom.rxqDepth then
      let r := mfiltRun p.taps (tapCount p.sps p.span - 1) (s.rxq.take n.toNat) s.rxdl
      respondOk (n.setWidth 32) { s with rxq := s.rxq.drop n.toNat, mfq := s.mfq ++ r.1, rxdl := r.2 }
    else respondBusy s

end Sys2Proof.Machine
end

