-- ==== Sys2Proof/Machine/Interleaver.lean ====
section
/-! DEFINITION. The bit interleaver and de-interleaver, ILV and DEILV (43_interleaver.md). -/

namespace Sys2Proof.Machine

/-- The interleaver of a profile, `P_ILV[profile]` (00_scope.md R9): the block permutation of 43_interleaver.md R231 and
R232, or the permutation a platform supplies. `columns` is 1 where the permutation is the identity (QPSK, M = 4, and
below: 90_conflicts.md C4); `reversed` for 8PSK with rate label 3/5. -/
inductive Interleaver where
  | block (columns rows : Nat) (reversed : Bool)
  | table (perm : List Nat)
deriving DecidableEq, Repr

/-- The interleaver of R231 and R232, the spec's value of `P_ILV[profile]`. -/
def defaultIlv (r : ProfileRow) : Interleaver :=
  if r.eta ≤ 2 then .block 1 r.nldpc false
  else .block r.eta (r.nldpc / r.eta) (r.order == 8 && r.rate == .r3_5)

/-- `P_ILV[profile]`: the platform's permutation, or else the spec's. -/
def ilvOf (rom : Rom) (r : ProfileRow) : Interleaver :=
  match ilvRowOf rom r with
  | some perm => .table perm
  | none => defaultIlv r

/-- col(j), the column read at position j of a row (43_interleaver.md R232); an involution. -/
def ilvColumn (columns : Nat) (reversed : Bool) (j : Nat) : Nat := if reversed then columns - 1 - j else j

/-- pi(n); for the block interleaver col(n mod C) * R + floor(n / C) (43_interleaver.md R232). Nothing where a platform's
table has no entry `n`. -/
def ilvPerm (h : Interleaver) (n : Nat) : Option Nat :=
  match h with
  | .block columns rows reversed => some (ilvColumn columns reversed (n % columns) * rows + n / columns)
  | .table perm => perm[n]?

/-- The index n below `len` with pi(n) = k; for the block interleaver pi_inv(col(j) * R + r) = r * C + j
(43_interleaver.md R233). In a platform's table the last such n, since the loop of R236 goes upwards, or nothing. -/
def ilvPermInv (h : Interleaver) (len k : Nat) : Option Nat :=
  match h with
  | .block columns rows reversed => some (k % rows * columns + ilvColumn columns reversed (k / rows))
  | .table perm => (List.range len).reverse.find? (fun n => perm[n]? == some k)

/-- The element of a sequence at an index, where there are both. -/
def elementAt {α : Type} (x : List α) (i : Option Nat) : Option α := i.bind (fun k => x[k]?)

/-- y[n] = x[pi(n)] for every n below the length (43_interleaver.md R234). `free n` stands at n where pi names no
element of x: a platform's table that is no permutation raises nothing (R237; assumption 23). -/
def interleave {α : Type} (h : Interleaver) (free : Nat → α) (x : List α) : List α :=
  (List.range x.length).map (fun n => (elementAt x (ilvPerm h n)).getD (free n))

/-- x[pi(n)] = y[n], that is x[k] = y[pi_inv(k)] (43_interleaver.md R233, R236). `free k` stands at k where pi sends no
element there (R237; assumption 23). -/
def deinterleave {α : Type} (h : Interleaver) (free : Nat → α) (y : List α) : List α :=
  (List.range y.length).map (fun k => (elementAt y (ilvPermInv h y.length k)).getD (free k))

/-- ILV (43_interleaver.md R234). -/
def execIlv (s : State) : StepResult :=
  whenActive s fun p =>
    match s.tb2, s.tb3 with
    | some x, none => respondOk 0 { s with tb2 := none, tb3 := some (interleave (ilvOf s.rom p.row) (Config.freeBit x) x) }
    | _, _ => respondBusy s

/-- DEILV (43_interleaver.md R236): the elements moved are LLRs. -/
def execDeilv (s : State) : StepResult :=
  whenActive s fun p =>
    match s.rb3, s.rb2 with
    | some y, none => respondOk 0 { s with rb3 := none, rb2 := some (deinterleave (ilvOf s.rom p.row) (Config.freeLlr y) y) }
    | _, _ => respondBusy s

end Sys2Proof.Machine
end

