-- ==== Sys2Proof/Machine/Ldpc.lean ====
section
/-! DEFINITION. The LDPC encoder and decoder, LDPCENC and LDPCDEC (42_ldpc.md). -/

namespace Sys2Proof.Machine

/-- What the LDPC code of a profile is made of: its address table and its sizes (42_ldpc.md R201). -/
structure LdpcCode where
  rows : List (List Nat)
  group : Nat
  q : Nat
  kldpc : Nat
  npar : Nat
deriving DecidableEq, Repr

/-- The LDPC code of a profile; no rows where the address table is not supplied, which START excludes. -/
def profLdpc (rom : Rom) (p : Prof) : LdpcCode where
  rows := (ldpcRowsOf rom p.row.cls p.row.rate).getD []
  group := rom.ldpcGroup
  q := qOf rom p.row
  kldpc := p.row.kldpc
  npar := nparOf p.row

/-- The checks that information bit `m` is a member of: (x + (m mod G) * q) mod npar for x in row floor(m / G)
(42_ldpc.md R204). -/
def bitChecks (c : LdpcCode) (m : Nat) : List Nat :=
  (c.rows.getD (m / c.group) []).map (fun x => (x + m % c.group * c.q) % c.npar)

/-- The accumulate loop of 42_ldpc.md R205 over the information bits from index `m` on: information bit m is added to
the accumulators of its checks. -/
def accumulate (c : LdpcCode) : Nat → List Bool → List Bool → List Bool
  | _, [], p => p
  | m, b :: rest, p =>
    accumulate c (m + 1) rest ((bitChecks c m).foldl (fun p j => p.modify j (fun x => x != b)) p)

/-- The running exclusive-or of 42_ldpc.md R205, the bit before the first being `prev`. -/
def runningXor : Bool → List Bool → List Bool
  | _, [] => []
  | prev, b :: rest => (b != prev) :: runningXor (b != prev) rest

/-- The parity bits of an information block (42_ldpc.md R205). -/
def ldpcParity (c : LdpcCode) (i : List Bool) : List Bool :=
  runningXor false (accumulate c 0 i (List.replicate c.npar false))

/-- LDPCENC (42_ldpc.md R205). -/
def execLdpcenc (s : State) : StepResult :=
  whenActive s fun p =>
    match s.tb1, s.tb2 with
    | some i, none => respondOk 0 { s with tb1 := none, tb2 := some (i ++ ldpcParity (profLdpc s.rom p) i) }
    | _, _ => respondBusy s

/-- N(j): the codeword indices that check `j` covers, A_j, then p[j-1] where j >= 1, then p[j] (42_ldpc.md R202, R204). -/
def checkIndices (c : LdpcCode) (j : Nat) : List Nat :=
  (List.range c.kldpc).filter (fun m => (bitChecks c m).contains j) ++
    (if j = 0 then [c.kldpc] else [c.kldpc + j - 1, c.kldpc + j])

/-- All checks of the code, check 0 first (42_ldpc.md R202). -/
def ldpcChecks (c : LdpcCode) : List (List Nat) := (List.range c.npar).map (checkIndices c)

/-- The hard decisions of a list of posteriors: 1 where negative (00_scope.md R15). -/
def hardBits (p : List Int) : List Bool := p.map (fun x => decide (x < 0))

/-- Every check is satisfied by the word `z` (42_ldpc.md R202, R210). -/
def checksHold (checks : List (List Nat)) (z : List Bool) : Bool :=
  checks.all (fun vs => !xorAll (vs.map (fun v => z.getD v false)))

/-- `sgn`: -1 for a negative number, else +1 (42_ldpc.md R210). -/
def sgn (x : Int) : Int := if x < 0 then -1 else 1

/-- The variable-to-check messages of one check, Q[c,v] = clamp(P[v] - R[c,v], LLRMAX) (42_ldpc.md R210). -/
def variableToCheck (llrmax : Int) (p : List Int) (vs : List Nat) (r : List Int) : List Int :=
  List.zipWith (fun v x => clampTo (p.getD v 0 - x) llrmax) vs r

/-- The message to one member of a check from the messages of the others (42_ldpc.md R210): the product of their signs
times the least magnitude, at most LLRMAX. -/
def minSum (llrmax : Int) (others : List Int) : Int :=
  (others.map sgn).foldl (· * ·) 1 * (others.map (fun x => (x.natAbs : Int))).foldl min llrmax

/-- The check-to-variable messages of one check (42_ldpc.md R210). -/
def checkToVariable (llrmax : Int) (q : List Int) : List Int :=
  (List.range q.length).map (fun i => minSum llrmax (q.eraseIdx i))

/-- The sum of R[c,v] over the checks c that cover the index `v` (42_ldpc.md R210). -/
def messageSum (checks : List (List Nat)) (r : List (List Int)) (v : Nat) : Int :=
  (List.zipWith (fun vs rs => (List.zipWith (fun w x => if w = v then x else 0) vs rs).sum) checks r).sum

/-- The posteriors P[v] = clamp(L[v] + sum of R[c,v], LLRMAX) (42_ldpc.md R210). -/
def posteriors (llrmax : Int) (checks : List (List Nat)) (l : List Int) (r : List (List Int)) : List Int :=
  l.zipIdx.map (fun e => clampTo (e.1 + messageSum checks r e.2) llrmax)

/-- What the decoder answers: the word z, whether it converged, the iterations used (42_ldpc.md R211). -/
structure LdpcResult where
  word : List Bool
  converged : Bool
  iterations : Nat
deriving DecidableEq, Repr

/-- The loop of 42_ldpc.md R210, with `left` iterations left after `it` of them. -/
def ldpcLoop (llrmax : Int) (checks : List (List Nat)) (l : List Int) :
    Nat → Nat → List Int → List (List Int) → LdpcResult
  | left, it, p, r =>
    if checksHold checks (hardBits p) then ⟨hardBits p, true, it⟩
    else match left with
      | 0 => ⟨hardBits p, false, it⟩
      | left + 1 =>
        let r' := List.zipWith (fun vs rs => checkToVariable llrmax (variableToCheck llrmax p vs rs)) checks r
        ldpcLoop llrmax checks l left (it + 1) (posteriors llrmax checks l r') r'

/-- The decoder: clamped inputs (42_ldpc.md R209), messages 0, posteriors equal to the inputs (R210). -/
def ldpcDecode (c : LdpcCode) (llrmax maxiter : Nat) (lin : List Llr) : LdpcResult :=
  let l := lin.map (fun x => clampTo x.toInt llrmax)
  let checks := ldpcChecks c
  ldpcLoop llrmax checks l maxiter 0 l (checks.map (fun vs => vs.map (fun _ => 0)))

/-- LDPCDEC (42_ldpc.md R212). Reaching the iteration limit is no exception (60_exceptions.md R355). -/
def execLdpcdec (s : State) : StepResult :=
  whenActive s fun p =>
    match s.rb2, s.rb1 with
    | some lin, none =>
      let d := ldpcDecode (profLdpc s.rom p) p.llrmax p.maxiter lin
      respondOk (BitVec.ofNat 32 d.iterations ||| flagAt 16 (!d.converged))
        { s with
          rb2 := none
          rb1 := some ⟨d.word.take p.row.kldpc, !d.converged⟩
          ldpcIter := BitVec.ofNat 32 d.iterations
          cntLdpcfail := bumpIf (!d.converged) s.cntLdpcfail
          event := if d.converged then s.event else withEvent .ldpcfail s.event }
    | _, _ => respondBusy s

end Sys2Proof.Machine
end

