-- ==== Sys2Proof/Machine/Mapper.lean ====
section
/-! DEFINITION. The symbol mapper and demapper, MAP and DEMAP (44_mapper.md). -/

namespace Sys2Proof.Machine

/-- The symbol of a group of bits: the point whose label has the group's first bit as its most significant bit
(44_mapper.md R246). -/
def mapGroup (points : List Sample) (g : List Bool) : Sample := points.getD (natOfBits g) Sample.zero

/-- The NSYM symbols of a frame (44_mapper.md R246, R253). -/
def mapFrame (points : List Sample) (eta nsym : Nat) (b : List Bool) : List Sample :=
  (groupsOf eta nsym b).map (mapGroup points)

/-- MAP (44_mapper.md R253). -/
def execMap (s : State) : StepResult :=
  whenActive s fun p =>
    match s.tb3, s.tb4 with
    | some b, none =>
      respondOk (BitVec.ofNat 32 p.nsym)
        { s with tb3 := none, tb4 := some (mapFrame (pointsOf s.rom p.row.order p.row.rate) p.row.eta p.nsym b) }
    | _, _ => respondBusy s

/-- dist2(y, s), the squared distance, exact (44_mapper.md R256). -/
def dist2 (y s : Sample) : Int :=
  (y.re.toInt - s.re.toInt) * (y.re.toInt - s.re.toInt) + (y.im.toInt - s.im.toInt) * (y.im.toInt - s.im.toInt)

/-- The least element of a list, or 0 of an empty list (a table has labels with either bit). -/
def leastOf (l : List Int) : Int :=
  match l with
  | [] => 0
  | x :: rest => rest.foldl min x

/-- The least squared distance to a point whose label has bit `p` equal to `v` (44_mapper.md R256). -/
def nearestWith (points : List Sample) (y : Sample) (p : Nat) (v : Bool) : Int :=
  leastOf ((points.zipIdx.filter (fun e => e.2.testBit p == v)).map (fun e => dist2 y e.1))

/-- The soft LLR of label bit `p` (44_mapper.md R256), as an integer: the magnitude is rounded toward zero. -/
def softLlr (points : List Sample) (llrscale llrshift llrmax : Nat) (y : Sample) (p : Nat) : Int :=
  let d := nearestWith points y p true - nearestWith points y p false
  let mag : Int := ((d.natAbs * llrscale) >>> llrshift : Nat)
  clampTo (if d < 0 then -mag else mag) llrmax

/-- The first position, from `i` on, of a list's element that is less than every element before it: `best` is the
position of the least so far, `least` its value. -/
def firstLeast : List Int → Nat → Nat → Int → Nat
  | [], _, best, _ => best
  | x :: rest, i, best, least => if x < least then firstLeast rest (i + 1) i x else firstLeast rest (i + 1) best least

/-- The decided label: the smallest of the labels that minimise the squared distance (44_mapper.md R257). -/
def hardLabel (points : List Sample) (y : Sample) : Nat :=
  match points.map (dist2 y) with
  | [] => 0
  | x :: rest => firstLeast rest 1 0 x

/-- The hard LLR of label bit `p`: +llrmax for a decided 0, -llrmax for a decided 1 (44_mapper.md R257). -/
def hardLlr (points : List Sample) (llrmax : Nat) (y : Sample) (p : Nat) : Int :=
  if (hardLabel points y).testBit p then -(llrmax : Int) else llrmax

/-- The eta LLRs of one symbol, those of bit i = 0 first: label bit eta-1-i (44_mapper.md R255, R258). -/
def demapSymbol (points : List Sample) (p : Prof) (y : Sample) : List Llr :=
  (List.range p.row.eta).map (fun i =>
    BitVec.ofInt 8
      (if p.hard then hardLlr points p.llrmax y (p.row.eta - 1 - i)
       else softLlr points p.llrscale p.llrshift p.llrmax y (p.row.eta - 1 - i)))

/-- The LLRs of a frame of symbols (44_mapper.md R258). -/
def demapFrame (points : List Sample) (p : Prof) (y : List Sample) : List Llr := y.flatMap (demapSymbol points p)

/-- DEMAP (44_mapper.md R258). -/
def execDemap (s : State) : StepResult :=
  whenActive s fun p =>
    match s.rb4, s.rb3 with
    | some y, none =>
      respondOk 0 { s with rb4 := none, rb3 := some (demapFrame (pointsOf s.rom p.row.order p.row.rate) p y) }
    | _, _ => respondBusy s

end Sys2Proof.Machine
end

