-- ==== Sys2Proof/Machine/Payload.lean ====
section
/-! DEFINITION. LDBB and STBB: payload chunks in and out (40_session_control.md R138, R139; 20_memory.md R73, R75). -/

namespace Sys2Proof.Machine

/-- LDBB (40_session_control.md R138). The chunk is consumed whether the command succeeds or raises TxChunkError
(20_memory.md R78); with `TB0` FULL or no chunk offered it is BUSY. -/
def execLdbb (s : State) : StepResult :=
  whenActive s fun p =>
    match s.tb0, s.bbin with
    | none, c :: rest =>
      if c.length < p.chunkBytes then failWith (.txChunkError .short) { s with bbin := rest }
      else if c.length > p.chunkBytes then failWith (.txChunkError .long) { s with bbin := rest }
      else respondOk 0 { s with bbin := rest, tb0 := some (bitsOfBytes c) }
    | _, _ => respondBusy s

/-- STBB (40_session_control.md R139). -/
def execStbb (s : State) : StepResult :=
  whenActive s fun p =>
    match s.rb0, s.bboutReady with
    | some b, true =>
      respondOk (BitVec.ofNat 32 p.chunkBytes)
        { s with rb0 := none, bbout := s.bbout ++ [bytesOfBits p.chunkBytes b] }
    | _, _ => respondBusy s

end Sys2Proof.Machine
end

