-- ==== Sys2Proof/Machine/Session.lean ====
section
/-! DEFINITION. RESET, CFGW, CFGR, START, STOP, RDSTAT and CLREV (40_session_control.md R131 to R137). -/

namespace Sys2Proof.Machine

/-- RESET (40_session_control.md R131): every item of state takes its reset value; any session state. -/
def execReset (s : State) : StepResult := respondOk 0 (resetCore s)

/-- CFGW (40_session_control.md R132): all 16 bits, no legality check; needs IDLE. -/
def execCfgw (idx : BitVec 8) (imm : BitVec 16) (s : State) : StepResult :=
  whenIndex idx 13 s (whenIdle s (respondOk 0 (cfgWrite idx.toNat imm s)))

/-- CFGR (40_session_control.md R133): any session state, no side effect. -/
def execCfgr (idx : BitVec 8) (s : State) : StepResult :=
  whenIndex idx 13 s (respondOk ((cfgRead s idx.toNat).setWidth 32) s)

/-- START's validation (40_session_control.md R134): the first check that fails, or the profile record and the taps. -/
def startCheck (s : State) : Except ConfigCause (ProfileRow × List Int) :=
  if cfgReservedSet s then .error .reservedBits
  else match profileLookup s.rom (cfgModcod s) (cfgShort s) with
    | none => .error .unknownModcod
    | some r =>
      if cfgAlpha s < 1 || cfgAlpha s > 100 then .error .badRolloff
      else if cfgSps s < 2 || cfgSps s > s.rom.spsMax then .error .badSps
      else if cfgSpan s < 2 || cfgSpan s > s.rom.spanMax then .error .badSpan
      else match rrcLookup s.rom (cfgAlpha s) (cfgSps s) (cfgSpan s) with
        | none => .error .noTaps
        | some taps =>
          if (cfgRead s 4).toNat = 0 then .error .badMaxiter
          else if (cfgRead s 5).toNat < 1 || (cfgRead s 5).toNat > 127 || (cfgRead s 6).toNat == 0 || cfgLlrshift s > 47
          then .error .badLlr
          else if (cfgRead s 11).toNat = 0 then .error .badMiss
          else .ok (r, taps)

/-- The record START latches (10_state.md R36). -/
def latchProfile (s : State) (r : ProfileRow) (taps : List Int) : Prof where
  row := r
  pilots := cfgPilots s
  alpha100 := cfgAlpha s
  sps := cfgSps s
  span := cfgSpan s
  taps := taps
  maxiter := (cfgRead s 4).toNat
  llrmax := (cfgRead s 5).toNat
  llrscale := (cfgRead s 6).toNat
  llrshift := cfgLlrshift s
  hard := cfgHard s
  thresh := (cfgRead s 9).toNat
  tshift := cfgTshift s
  miss := (cfgRead s 11).toNat
  cloop := cfgRead s 12
  tloop := cfgRead s 13
  lpl := plLength s.rom r (cfgPilots s)
  nsym := nsymOf r
  chunkBytes := r.kbch / 8

/-- The success branch of START (40_session_control.md R134). DESIGN CHOICE (assumption 24): `ST_CHUNK`
and `ST_PLLEN`, like START's response value, hold a size above 2^32 - 1 modulo 2^32. -/
def beginSession (p : Prof) (s : State) : State :=
  { clearStreams p.span (tapCount p.sps p.span - 1) (winLength s.rom p.sps) s with
    session := .active p
    stChunk := BitVec.ofNat 32 p.chunkBytes
    stPllen := BitVec.ofNat 32 p.lpl }

/-- START (40_session_control.md R134); needs IDLE. -/
def execStart (s : State) : StepResult :=
  whenIdle s <|
    match startCheck s with
    | .error c => failWith (.configurationError c) s
    | .ok (r, taps) =>
      respondOk (BitVec.ofNat 32 (r.kbch / 8)) (beginSession (latchProfile s r taps) s)

/-- STOP (40_session_control.md R135); any session state. -/
def execStop (s : State) : StepResult := respondOk 0 (stopSession s)

/-- RDSTAT (40_session_control.md R136); any session state, no side effect. -/
def execRdstat (idx : BitVec 8) (s : State) : StepResult :=
  whenIndex idx 21 s (respondOk (statRead s idx.toNat) s)

/-- CLREV (40_session_control.md R137): the response is the event word before clearing. -/
def execClrev (mask : BitVec 16) (s : State) : StepResult := respondOk s.event (acknowledge mask s)

end Sys2Proof.Machine
end

