-- ==== Sys2Proof/Machine/Cordic.lean ====
section
/-! DEFINITION. The angle, rotation, interpolation and loop functions of the synchronizer, `P_ARG`, `P_ROT`, `P_INTERP`,
`P_CLOOP` and `P_TLOOP`: platform parameters with the defaults of 47_synchronizer.md R336 to R341 (00_scope.md R9;
assumption 4). `pArg`, `pRot`, `pInterp`, `pCloop`, `pTloop` are the defaults; `romArg` and so on are the parameters. -/

namespace Sys2Proof.Machine

/-- A parameter that is a function: the platform's value where it supplies one for the argument, else the spec's default
value (00_scope.md R9). -/
def platformOr {α β : Type} [BEq α] (rows : FunctionRows α β) (x : α) (default : β) : β := (rows.lookup x).getD default

/-- The micro-rotation angles A[0] .. A[15] in units of 2^-32 turn (47_synchronizer.md R336). -/
def cordicAngles : List Int :=
  [536870912, 316933406, 167458907, 85004756, 42667331, 21354465, 10679838, 5340245,
   2670163, 1335087, 667544, 333772, 166886, 83443, 41722, 20861]

/-- The reciprocal of the 16-stage CORDIC gain, times 2^16 (47_synchronizer.md R336). -/
def kGain : Int := 39797

/-- The vectoring loop of the default `P_ARG` from stage `i` on: it ends early once y = 0 (47_synchronizer.md R337). -/
def argLoop : List Int → Nat → Int → Int → Int → Int
  | [], _, _, _, ang => ang
  | a :: rest, i, x, y, ang =>
    let x' := if y > 0 then x + (y >>> i) else x - (y >>> i)
    let y' := if y > 0 then y - (x >>> i) else y + (x >>> i)
    let ang' := if y > 0 then ang + a else ang - a
    if y' = 0 then ang' else argLoop rest (i + 1) x' y' ang'

/-- An integer scaled by 2^(28 - n): a floor shift right for n > 28 (47_synchronizer.md R337). -/
def scaleTo28 (n : Nat) (x : Int) : Int := if n > 28 then x >>> (n - 28) else x * ((2 ^ (28 - n) : Nat) : Int)

/-- The default of `P_ARG(x, y)`: the angle of x + jy as an unsigned 32-bit fraction of a turn (47_synchronizer.md R337). -/
def pArg (z : Cx) : BitVec 32 :=
  if z.re = 0 ∧ z.im = 0 then 0
  else
    let n := bitlen (max z.re.natAbs z.im.natAbs)
    let x := scaleTo28 n z.re
    let y := scaleTo28 n z.im
    let base : Int := if x < 0 then 2147483648 else 0
    let y1 := if x < 0 then -y else y
    let x1 := if x < 0 then -x else x
    if y1 = 0 then word32 base else word32 (base + argLoop cordicAngles 0 x1 y1 0)

/-- The rotation loop of the default `P_ROT` from stage `i` on (47_synchronizer.md R338). -/
def rotLoop : List Int → Nat → Int → Int → Int → Cx
  | [], _, x, y, _ => ⟨x, y⟩
  | a :: rest, i, x, y, phi =>
    if phi ≥ 0 then rotLoop rest (i + 1) (x - (y >>> i)) (y + (x >>> i)) (phi - a)
    else rotLoop rest (i + 1) (x + (y >>> i)) (y - (x >>> i)) (phi + a)

/-- The exact rotation by `q` quarter turns (47_synchronizer.md R338). -/
def quarterTurns (q : Nat) (z : Cx) : Cx :=
  match q with
  | 1 => ⟨-z.im, z.re⟩
  | 2 => ⟨-z.re, -z.im⟩
  | 3 => ⟨z.im, -z.re⟩
  | _ => z

/-- The default of `P_ROT((x, y), theta)`: the rotation by theta (unsigned 32 bits), saturated to 16 bits (47_synchronizer.md R338). -/
def pRot (z : Cx) (theta : BitVec 32) : Sample :=
  let q := ((theta.toNat + 2 ^ 29) >>> 30) % 4
  let phi := (word32 ((theta.toNat : Int) - (q : Int) * 1073741824)).toInt
  let w := quarterTurns q z
  if phi = 0 then satSample w.re w.im
  else
    let r := rotLoop cordicAngles 0 (w.re * 256) (w.im * 256) phi
    satSample (rnd (r.re * kGain) 24) (rnd (r.im * kGain) 24)

/-- The default of `P_INTERP` for one component (47_synchronizer.md R341), before saturation. -/
def interpAt (prev cur nxt tau : Int) : Int :=
  if tau ≥ 0 then cur + rnd ((nxt - cur) * tau) 15 else cur + rnd ((prev - cur) * (0 - tau)) 15

/-- The default of `P_INTERP(prev, cur, nxt, tau)`: linear interpolation around `cur`, tau in units of 2^-15 sample
(47_synchronizer.md R341). -/
def pInterp (prev cur nxt : Sample) (tau : Int) : Sample :=
  satSample (interpAt prev.re.toInt cur.re.toInt nxt.re.toInt tau) (interpAt prev.im.toInt cur.im.toInt nxt.im.toInt tau)

/-- `P_ARG(x, y)` (47_synchronizer.md R337). -/
def romArg (rom : Rom) (z : Cx) : BitVec 32 := platformOr rom.arg z (pArg z)

/-- `P_ROT((x, y), theta)` (47_synchronizer.md R338). -/
def romRot (rom : Rom) (z : Cx) (theta : BitVec 32) : Sample := platformOr rom.rot (z, theta) (pRot z theta)

/-- `P_INTERP(prev, cur, nxt, tau)` (47_synchronizer.md R341). -/
def romInterp (rom : Rom) (prev cur nxt : Sample) (tau : Int) : Sample :=
  platformOr rom.interp (prev, cur, nxt, tau) (pInterp prev cur nxt tau)

/-- The default of `P_CLOOP`: the new (`W_PHASE`, `W_DPH`) (47_synchronizer.md R339). KP = cloop[15:8], KI = cloop[7:0];
the residual phase is the platform's `P_ARG`. -/
def pCloop (rom : Rom) (cloop : BitVec 16) (cAcc : Cx) (since : Nat) (wPhase wDph : BitVec 32) : BitVec 32 × BitVec 32 :=
  let kp := (cloop.extractLsb' 8 8).toNat
  let ki := (cloop.extractLsb' 0 8).toNat
  let err := (romArg rom cAcc).toInt
  (word32 (wPhase.toNat + (err >>> kp)), word32 (wDph.toInt + (err >>> (ki + bitlen since))))

/-- `P_CLOOP(cloop, C_ACC, SINCE, W_PHASE, W_DPH)` (47_synchronizer.md R339). -/
def romCloop (rom : Rom) (cloop : BitVec 16) (cAcc : Cx) (since : Nat) (wPhase wDph : BitVec 32) : BitVec 32 × BitVec 32 :=
  platformOr rom.cloop (cloop, cAcc, since, wPhase, wDph) (pCloop rom cloop cAcc since wPhase wDph)

/-- The default of `P_TLOOP`: the new `W_TIMING` before the slip test, an unbounded integer (47_synchronizer.md R340). DB = tloop[15:8],
STEP = tloop[3:0]. -/
def pTloop (tloop : BitVec 16) (cAcc eAcc lAcc : Cx) (wTiming : Int) : Int :=
  let db := (tloop.extractLsb' 8 8).toNat
  let step : Int := ((2 ^ (tloop.extractLsb' 0 4).toNat : Nat) : Int)
  let dC := normSq cAcc
  let dE := normSq eAcc
  let dL := normSq lAcc
  if dL - dE > dC >>> db then wTiming + step
  else if dE - dL > dC >>> db then wTiming - step
  else wTiming

/-- `P_TLOOP(tloop, C_ACC, E_ACC, L_ACC, W_TIMING)`, an unbounded integer (47_synchronizer.md R340). -/
def romTloop (rom : Rom) (tloop : BitVec 16) (cAcc eAcc lAcc : Cx) (wTiming : Int) : Int :=
  platformOr rom.tloop (tloop, cAcc, eAcc, lAcc, wTiming) (pTloop tloop cAcc eAcc lAcc wTiming)

end Sys2Proof.Machine
end

