-- ==== Sys2Proof/Machine/Framer.lean ====
section
/-! DEFINITION. The physical-layer framer, PLFRM, and the position of every symbol in a PL frame (45_plframer.md). -/

namespace Sys2Proof.Machine

/-- The six rows G[1] .. G[6] of the signalling code, bit 31 being column 1 (45_plframer.md R275). -/
def plsRows : List (BitVec 32) := [0x55555555, 0x33333333, 0x0F0F0F0F, 0x00FF00FF, 0x0000FFFF, 0xFFFFFFFF]

/-- The bits b_1 .. b_6 that select rows: MODCOD, most significant bit first, then SHORT (45_plframer.md R275). -/
def plsSelect (modcod : Nat) (short : Bool) : List Bool := bitsOfNat 5 modcod ++ [short]

/-- w: the exclusive-or of the selected rows (45_plframer.md R275). -/
def plsWord (modcod : Nat) (short : Bool) : BitVec 32 :=
  (List.zipWith (fun (b : Bool) g => if b then g else 0) (plsSelect modcod short) plsRows).foldl (· ^^^ ·) 0

/-- The 64 bits c[1] .. c[64]: each bit of w followed by itself or, with pilots (b_7 = 1), its complement
(45_plframer.md R275). -/
def plsCode (modcod : Nat) (short pilots : Bool) : List Bool :=
  (bitsOfNat 32 (plsWord modcod short).toNat).flatMap (fun b => [b, b != pilots])

/-- The `P_HDR_LEN` header bits (by default y_1 .. y_90): SOF, then the scrambled signalling code of 64 bits
(45_plframer.md R272, R273, R275). DESIGN CHOICE (assumption 4): for a `P_HDR_LEN` other than 90, SOF has
`P_HDR_LEN` - 64 bits. Where a platform's `P_HDR_LEN` has no room for 64 bits the code is cut off
(assumption 18). -/
def headerBits (rom : Rom) (modcod : Nat) (short pilots : Bool) : List Bool :=
  (bitsOfNat (rom.hdrLen - 64) rom.sof ++
    List.zipWith Bool.xor (plsCode modcod short pilots) (bitsOfNat 64 rom.plsScr.toNat)).take rom.hdrLen

/-- The symbol of header bit number `i` + 1: pi/2-shifted BPSK (45_plframer.md R276; an even `i` here is an odd
position there). -/
def headerSymbol (i : Nat) (y : Bool) : Sample :=
  let a : Int := if y then -2896 else 2896
  if i % 2 = 0 then Sample.ofInts a a else Sample.ofInts (-a) a

/-- `HDR(profile)`, the `P_HDR_LEN` header symbols (45_plframer.md R277). -/
def plHeader (rom : Rom) (modcod : Nat) (short pilots : Bool) : List Sample :=
  (headerBits rom modcod short pilots).zipIdx.map (fun e => headerSymbol e.2 e.1)

/-- The header of the session's own profile (45_plframer.md R275). -/
def profHeader (rom : Rom) (p : Prof) : List Sample := plHeader rom p.row.modcod p.row.short p.pilots

/-- One pilot block: `P_PILOT_SYM` repeated `P_PILOT_LEN` times (45_plframer.md R274). -/
def pilotBlock (rom : Rom) : List Sample := List.replicate rom.pilotLen rom.pilotSym

/-- The slots, numbered `s` + 1 on, of a frame of `total` slots, each followed by a pilot block where one stands after
it: pilots enabled, the slot number a multiple of `P_PILOT_PERIOD`, and not the last slot (45_plframer.md R282). With a
platform's `P_PILOT_PERIOD` of 0 none does (DESIGN CHOICE, assumption 22). -/
def slotsWithPilots (rom : Rom) (pilots : Bool) (total : Nat) : Nat → List (List Sample) → List Sample
  | _, [] => []
  | s, slot :: rest =>
    slot ++ (if pilots && (s + 1) % rom.pilotPeriod == 0 && decide (s + 1 < total) then pilotBlock rom else []) ++
      slotsWithPilots rom pilots total (s + 1) rest

/-- The PL frame of the data symbols `d` (45_plframer.md R271, R282). -/
def plFrame (rom : Rom) (p : Prof) (d : List Sample) : List Sample :=
  profHeader rom p ++
    slotsWithPilots rom p.pilots (slotsOf rom p.row) 0 (groupsOf rom.slotLen (slotsOf rom p.row) d)

/-- PLFRM (45_plframer.md R282). -/
def execPlfrm (s : State) : StepResult :=
  whenActive s fun p =>
    match s.tb4, s.tb5 with
    | some d, none => respondOk (BitVec.ofNat 32 p.lpl) { s with tb4 := none, tb5 := some (plFrame s.rom p d) }
    | _, _ => respondBusy s

/-- What a symbol of a PL frame is (45_plframer.md R283), each with its 0-based number. -/
inductive SymbolKind where
  | header (n : Nat)
  | data (n : Nat)
  | pilot (block n : Nat)
deriving DecidableEq, Repr

/-- `kind(k)`: what the symbol with index `k` of a PL frame is (45_plframer.md R283). -/
def symbolKind (rom : Rom) (p : Prof) (k : Nat) : SymbolKind :=
  if k < rom.hdrLen then .header k
  else
    let u := k - rom.hdrLen
    let dataRun := rom.pilotPeriod * rom.slotLen
    let period := dataRun + rom.pilotLen
    let g := u / period
    let v := u % period
    let np := pilotBlocks rom p.row p.pilots
    if p.pilots = false then .data u
    else if v < dataRun then .data (g * dataRun + v)
    else if g < np then .pilot g (v - dataRun)
    else .data (g * dataRun + v)

/-- Whether a symbol is a data symbol. -/
def isData : SymbolKind → Bool
  | .data _ => true
  | .header _ => false
  | .pilot _ _ => false

end Sys2Proof.Machine
end

