-- ==== Sys2Proof/Machine/Sync.lean ====
section
/-! DEFINITION. The frame, carrier and timing synchronizer, SYNC (47_synchronizer.md). -/

namespace Sys2Proof.Machine

/-- One SYNC command in progress (47_synchronizer.md R318): the state, the samples consumed and the flags
FRAME, LOST, LOCKED and DROPPED of the response. -/
structure SyncRun where
  st : State
  consumed : Nat
  frame : Bool
  lost : Bool
  locked : Bool
  dropped : Bool
deriving DecidableEq, Repr

/-- The response value (47_synchronizer.md R318): consumed in bits 15:0, FRAME 16, LOST 17, LOCKED 18, DROPPED 19. -/
def syncValue (r : SyncRun) : BitVec 32 :=
  BitVec.ofNat 32 r.consumed ||| flagAt 16 r.frame ||| flagAt 17 r.lost ||| flagAt 18 r.locked ||| flagAt 19 r.dropped

/-- A synchronization state in place of the one a state holds. -/
def withSync (y : SyncState) (s : State) : State := { s with sync := y }

/-- The run with its synchronization state changed by `f`. -/
def modifySync (f : SyncState → SyncState) (r : SyncRun) : SyncRun := { r with st := withSync (f r.st.sync) r.st }

/-- Every item of the synchronization state at its reset value, except `POS` (10_state.md R52). -/
def resetSync (rom : Rom) (p : Prof) (y : SyncState) : SyncState := SyncState.cleared (winLength rom p.sps) y.pos

/-- commit(): the three estimates written together from the working state (47_synchronizer.md R331). -/
def commitEstimates (y : SyncState) : SyncState :=
  { y with estFreq := y.wDph, estPhase := y.wPhase.extractLsb' 16 16, estTiming := y.wTiming }

/-- `CNT_DROPPED` and `EV_DROPPED` for a dropped frame (47_synchronizer.md R328, R330, R332). -/
def countDropped (s : State) : State :=
  { s with cntDropped := satInc s.cntDropped, event := withEvent .dropped s.event }

/-- gap_action() (47_synchronizer.md R332). -/
def gapAction (p : Prof) (r : SyncRun) : SyncRun :=
  let r1 := match r.st.sync.mode with
    | .locked => { r with st := countDropped r.st, dropped := true }
    | .searching => r
  modifySync (resetSync r.st.rom p) r1

/-- The correlation of the header with the samples sps apart, the first of them `off` places before the latest
consumed one (47_synchronizer.md R320 with `off` = e - c). -/
def correlate (hdr win : List Sample) (sps off : Nat) : Cx :=
  (hdr.zipIdx.map (fun e => conjMul e.1.toCx (win.getD (off - e.2 * sps) Sample.zero).toCx)).foldl cxAdd ⟨0, 0⟩

/-- `exceeds(M)` (47_synchronizer.md R322). -/
def exceeds (p : Prof) (m : Int) : Bool := decide (m >>> p.tshift > (p.thresh : Int))

/-- `below(M)` (47_synchronizer.md R322). -/
def below (p : Prof) (m : Int) : Bool := decide (m >>> p.tshift < (p.thresh : Int))

/-- The best of the candidates c0 .. c0 + sps - 1 (47_synchronizer.md R321): the offset d of cstar = c0 + d with the
largest metric, the smallest d among equal ones. `metric d` is M(c0 + d). -/
def bestCandidate (metric : Nat → Int) (sps : Nat) : Nat :=
  (List.range sps).foldl (fun best d => if metric d > metric best then d else best) 0

/-- search_step(e) (47_synchronizer.md R321). The candidate c0 = e - 90*sps + 1 is 90*sps - 1 places before e.
DESIGN CHOICE (assumption 21): after a loss or a gap the guard is R321's own, c0 < 0 in samples of the session, and the
cleared positions of `WIN` read as (0, 0) (R319); R326's remark that lock cannot be re-acquired until 90*sps further samples
have been consumed is not a guard of its own. -/
def searchStep (hdr : List Sample) (p : Prof) (e : Nat) (r : SyncRun) : SyncRun :=
  if e + 1 < r.st.rom.hdrLen * p.sps then r
  else
    let win := r.st.sync.win
    let c0 := e + 1 - r.st.rom.hdrLen * p.sps
    let corr := fun d => correlate hdr win p.sps (r.st.rom.hdrLen * p.sps - 1 - d)
    if exceeds p (normSq (corr 0)) then
      let d := bestCandidate (fun d => normSq (corr d)) p.sps
      let y := r.st.sync
      let y1 : SyncState := { y with
        mode := .locked
        wPhase := romArg r.st.rom (corr d)
        wDph := 0
        wTiming := 0
        next := (c0 + d : Nat)
        k := r.st.rom.hdrLen
        miss := 0
        acc := []
        cAcc := ⟨0, 0⟩
        eAcc := ⟨0, 0⟩
        lAcc := ⟨0, 0⟩
        since := 0
        sinceCarry := 0 }
      { r with
        st := { r.st with sync := commitEstimates y1, event := withEvent .lock r.st.event }
        locked := true }
    else r

/-- accumulate(ref) (47_synchronizer.md R323): the on-time correlation after derotation (`zd`), the early and the late
one half a sample either side, before derotation. -/
def accumulateRef (rom : Rom) (ref prev cur nxt zd : Sample) (y : SyncState) : SyncState :=
  let tau := y.wTiming.toInt
  { y with
    cAcc := cxAdd y.cAcc (conjMul ref.toCx zd.toCx)
    eAcc := cxAdd y.eAcc (conjMul ref.toCx (romInterp rom prev cur nxt (tau - 16384)).toCx)
    lAcc := cxAdd y.lAcc (conjMul ref.toCx (romInterp rom prev cur nxt (tau + 16384)).toCx) }

/-- The symbols taken since the last carrier-loop update, the true distance of 47_synchronizer.md R324: `SINCE` with its
wraps (10_state.md R23; assumption 9). -/
def sinceCount (y : SyncState) : Nat := y.sinceCarry * 65536 + y.since.toNat

/-- SINCE = SINCE + 1 (47_synchronizer.md R323), in 16 bits, a wrap being kept in the carry (assumption 9). -/
def countSince (y : SyncState) : SyncState :=
  { y with since := y.since + 1, sinceCarry := if y.since = 0xFFFF then y.sinceCarry + 1 else y.sinceCarry }

/-- SINCE = 0 (47_synchronizer.md R324). -/
def clearSince (y : SyncState) : SyncState := { y with since := 0, sinceCarry := 0 }

/-- The symbol instant (47_synchronizer.md R323), up to and including K + 1: timing correction, carrier correction, the
symbol appended to `ACC` or accumulated, and the phase advanced. -/
def takeSymbol (rom : Rom) (hdr : List Sample) (p : Prof) (y : SyncState) : SyncState :=
  let nxt := y.win.getD 0 Sample.zero
  let cur := y.win.getD 1 Sample.zero
  let prev := y.win.getD 2 Sample.zero
  let z := romInterp rom prev cur nxt y.wTiming.toInt
  let zd := romRot rom z.toCx (0 - y.wPhase)
  let y1 := countSince y
  let y2 := match symbolKind rom p y.k with
    | .data _ => { y1 with acc := y1.acc ++ [zd] }
    | .header i => accumulateRef rom (hdr.getD i Sample.zero) prev cur nxt zd y1
    | .pilot _ _ => accumulateRef rom rom.pilotSym prev cur nxt zd y1
  { y2 with wPhase := y2.wPhase + y2.wDph, k := y2.k + 1 }

/-- The slip test of 47_synchronizer.md R324 on the unbounded timing value `t`. -/
def slipTest (t : Int) (y : SyncState) : SyncState :=
  if t > 16384 then { y with wTiming := BitVec.ofInt 16 (t - 32768), next := y.next + 1 }
  else if t < -16384 then { y with wTiming := BitVec.ofInt 16 (t + 32768), next := y.next - 1 }
  else { y with wTiming := BitVec.ofInt 16 t }

/-- The three accumulators at (0, 0). -/
def clearAccumulators (y : SyncState) : SyncState := { y with cAcc := ⟨0, 0⟩, eAcc := ⟨0, 0⟩, lAcc := ⟨0, 0⟩ }

/-- The loop updates of 47_synchronizer.md R324: the carrier loop after every known block, the timing loop after a
header. -/
def updateLoops (rom : Rom) (p : Prof) (header : Bool) (y : SyncState) : SyncState :=
  let c := romCloop rom p.cloop y.cAcc (sinceCount y) y.wPhase y.wDph
  let t := if header then romTloop rom p.tloop y.cAcc y.eAcc y.lAcc y.wTiming.toInt else y.wTiming.toInt
  let y1 := slipTest t { y with wPhase := c.1, wDph := c.2 }
  clearSince (clearAccumulators y1)

/-- sync_loss(): SynchronizationLoss inside SYNC (47_synchronizer.md R326, 60_exceptions.md R357). -/
def syncLoss (p : Prof) (r : SyncRun) : SyncRun :=
  modifySync (resetSync r.st.rom p) { r with st := raiseExc .synchronizationLoss r.st, lost := true }

/-- block_end(kd) for a header block (47_synchronizer.md R324, R325); the second component says that the step returns
(sync_loss was taken). -/
def headerEnd (p : Prof) (r : SyncRun) : SyncRun × Bool :=
  let y := r.st.sync
  if below p (normSq y.cAcc) then
    if y.miss.toNat + 1 ≥ p.miss then (syncLoss p r, true)
    else (modifySync (fun y => clearAccumulators { y with miss := y.miss + 1 }) r, false)
  else (modifySync (fun y => updateLoops r.st.rom p true { y with miss := 0 }) r, false)

/-- block_end(kd) (47_synchronizer.md R324). -/
def blockEnd (p : Prof) (kd : SymbolKind) (r : SyncRun) : SyncRun × Bool :=
  match kd with
  | .header _ => headerEnd p r
  | .data _ => (r, false)
  | .pilot _ _ => (modifySync (updateLoops r.st.rom p false) r, false)

/-- frame_close() (47_synchronizer.md R328, R330). -/
def frameClose (p : Prof) (r : SyncRun) : SyncRun :=
  let y := r.st.sync
  let y1 := commitEstimates { y with acc := [], next := y.next + (p.lpl * p.sps : Nat), k := 0 }
  match r.st.rb4 with
  | some _ => { r with st := withSync y1 (countDropped r.st), dropped := true }
  | none => { r with st := { r.st with rb4 := some y.acc, sync := y1 }, frame := true }

/-- The end of a known block stands between a symbol of kind `kd` and the next index `k` (47_synchronizer.md R323). -/
def atBlockEnd (rom : Rom) (p : Prof) (kd : SymbolKind) (k : Nat) : Bool :=
  !isData kd && (k == p.lpl || isData (symbolKind rom p k))

/-- locked_step(e) (47_synchronizer.md R323). -/
def lockedStep (hdr : List Sample) (p : Prof) (e : Nat) (r : SyncRun) : SyncRun :=
  let y := r.st.sync
  if (e : Int) ≠ y.next + ((y.k * p.sps + 1 : Nat) : Int) then r
  else
    let kd := symbolKind r.st.rom p y.k
    let r1 := modifySync (takeSymbol r.st.rom hdr p) r
    let b := if atBlockEnd r.st.rom p kd (y.k + 1) then blockEnd p kd r1 else (r1, false)
    if b.2 then b.1
    else if b.1.st.sync.k = p.lpl then frameClose p b.1
    else b.1

/-- step(y), first part (47_synchronizer.md R319): `POS` advances and the sample enters `WIN`. -/
def windowIn (x : Sample) (y : SyncState) : SyncState :=
  { y with pos := y.pos + 1, win := x :: y.win.dropLast }

/-- step(y) (47_synchronizer.md R319). -/
def sampleStep (hdr : List Sample) (p : Prof) (x : Sample) (r : SyncRun) : SyncRun :=
  let e := r.st.sync.pos
  let r1 := modifySync (windowIn x) r
  match r.st.sync.mode with
  | .searching => searchStep hdr p e r1
  | .locked => lockedStep hdr p e r1

/-- One sample removed from the head of `MFQ` and processed (47_synchronizer.md R318, R332). -/
def consumeSample (hdr : List Sample) (p : Prof) (x : TaggedSample) (rest : List TaggedSample) (r : SyncRun) : SyncRun :=
  let r1 := { r with st := { r.st with mfq := rest }, consumed := r.consumed + 1 }
  sampleStep hdr p x.sample (if x.gap then gapAction p r1 else r1)

/-- The loop of SYNC n (47_synchronizer.md R318): at most n samples, until `MFQ` is empty or a frame was delivered. -/
def syncLoop (hdr : List Sample) (p : Prof) : Nat → SyncRun → SyncRun
  | 0, r => r
  | n + 1, r =>
    match r.st.mfq with
    | [] => r
    | x :: rest =>
      let r1 := consumeSample hdr p x rest r
      if r1.frame then r1 else syncLoop hdr p n r1

/-- The run a SYNC command starts from. -/
def syncBegin (s : State) : SyncRun := ⟨s, 0, false, false, false, false⟩

/-- SYNC n (47_synchronizer.md R318): never BUSY; the status is OK even when SynchronizationLoss was raised inside. -/
def execSync (n : BitVec 16) (s : State) : StepResult :=
  whenCount n s <| whenActive s fun p =>
    let r := syncLoop (profHeader s.rom p) p n.toNat (syncBegin s)
    respondOk (syncValue r) r.st

end Sys2Proof.Machine
end

