-- ==== Sys2Proof/Machine/Dispatch.lean ====
section
/-! DEFINITION. The meaning of every command (30_encoding.md R103), one arm per constructor of Instr. -/

namespace Sys2Proof.Machine

def exec (i : Instr) (s : State) : Host.Outcome State Fault Refusal :=
  match i with
  | .reset => Sys2Proof.Machine.execReset s
  | .cfgw idx imm => Sys2Proof.Machine.execCfgw idx imm s
  | .cfgr idx => Sys2Proof.Machine.execCfgr idx s
  | .start => Sys2Proof.Machine.execStart s
  | .stop => Sys2Proof.Machine.execStop s
  | .rdstat idx => Sys2Proof.Machine.execRdstat idx s
  | .clrev mask => Sys2Proof.Machine.execClrev mask s
  | .ldbb => Sys2Proof.Machine.execLdbb s
  | .bchenc => Sys2Proof.Machine.execBchenc s
  | .ldpcenc => Sys2Proof.Machine.execLdpcenc s
  | .ilv => Sys2Proof.Machine.execIlv s
  | .map => Sys2Proof.Machine.execMap s
  | .plfrm => Sys2Proof.Machine.execPlfrm s
  | .shape => Sys2Proof.Machine.execShape s
  | .mfilt n => Sys2Proof.Machine.execMfilt n s
  | .sync n => Sys2Proof.Machine.execSync n s
  | .demap => Sys2Proof.Machine.execDemap s
  | .deilv => Sys2Proof.Machine.execDeilv s
  | .ldpcdec => Sys2Proof.Machine.execLdpcdec s
  | .bchdec => Sys2Proof.Machine.execBchdec s
  | .stbb => Sys2Proof.Machine.execStbb s

end Sys2Proof.Machine
end

