-- ==== Sys2Proof/Machine/Radio.lean ====
section
/-! DEFINITION. The steps of the other agents: the radio interface, the stop signal, hardware reset and the host's
side of the payload ports (40_session_control.md R135, R140, R141; 20_memory.md R70; 70_reset_and_hazards.md R390). None
produces a response record. -/

namespace Sys2Proof.Machine

/-- Radio pop (40_session_control.md R140). -/
def radioPop (s : State) : State :=
  match s.session with
  | .idle => s
  | .active _ =>
    match s.txq with
    | [] => raiseExc .streamUnderrun s
    | x :: rest => { s with txq := rest, radioTx := s.radioTx ++ [x] }

/-- Radio push of the sample `x` (40_session_control.md R141, 10_state.md R47). -/
def radioPush (x : Sample) (s : State) : State :=
  match s.session with
  | .idle => s
  | .active _ =>
    if s.rom.rxqDepth ≤ s.rxq.length then
      { raiseExc .streamOverrun s with gap := true, gapLen := satInc s.gapLen }
    else
      { s with rxq := s.rxq ++ [⟨x, s.gap, s.gapLen⟩], gap := false, gapLen := 0 }

/-- The stop signal: the effect of STOP without a response record (40_session_control.md R135). -/
def stopSignal (s : State) : State := stopSession s

/-- Hardware reset: the effect of RESET without a response record (70_reset_and_hazards.md R390). -/
def hardwareReset (s : State) : State := resetCore s

/-- The host offers a chunk on `BBIN` (20_memory.md R70). -/
def offerChunk (c : List Byte) (s : State) : State := { s with bbin := s.bbin ++ [c] }

/-- The host says whether `BBOUT` can take a chunk (40_session_control.md R139, R143). -/
def setBboutReady (ready : Bool) (s : State) : State := { s with bboutReady := ready }

end Sys2Proof.Machine
end

