-- ==== Sys2Proof/Machine/Command.lean ====
section
/-! DEFINITION. One step of one agent (00_scope.md R7, 30_encoding.md R104): a command word decoded and run, or a step
of the radio interface, the stop signal, hardware reset or the host's side of the payload ports. -/

namespace Sys2Proof.Machine

/-- A command word on `CMD`: decoded (30_encoding.md R104 checks 1 and 2) and run; an illegal word raises IllegalCommand
(60_exceptions.md R360). -/
def runCommand (w : BitVec 32) (s : State) : StepResult :=
  match decode w with
  | .instr i => exec i s
  | .reservedOpcode => failWith (.illegalCommand .reservedOpcode) s
  | .reservedField => failWith (.illegalCommand .reservedField) s

/-- One step of an agent outside the core. -/
def agentStep (a : AgentStep) (s : State) : StepResult :=
  match a with
  | .command w => runCommand w s
  | .stopSignal => .next (stopSignal s)
  | .hardwareReset => .next (hardwareReset s)
  | .offerChunk c => .next (offerChunk c s)
  | .bboutReady b => .next (setBboutReady b s)
  | .radioPop => .next (radioPop s)
  | .radioPush x => .next (radioPush x s)

/-- One step of the machine: the next pending agent step is removed from `inputs` and taken; with none pending nothing
happens (assumption 5). -/
def stepOnce (s : State) : StepResult :=
  match s.inputs with
  | [] => .next s
  | a :: rest => agentStep a { s with inputs := rest }

/-- The bits `w` of an instruction of `nbits` bits presented as the very next step's command word. -/
def presentCommand (s : State) (nbits w : Nat) : State :=
  { s with inputs := .command (BitVec.ofNat 32 (w % 2 ^ nbits)) :: s.inputs }

end Sys2Proof.Machine
end

