-- ==== Sys2Proof/Machine/Step.lean ====
section
/-! DEFINITION. The step function of the machine and the placing of a command where it fetches (assumption 5). -/

namespace Sys2Proof.Machine

/-- One step: see `stepOnce`. -/
def step (s : State) : Host.Outcome State Fault Refusal := stepOnce s

/-- `s` with the command word whose bits are `w` (the bits above `nbits` zero) as the next pending agent step. -/
def State.withFetchWord (s : State) (nbits w : Nat) : State := presentCommand s nbits w

end Sys2Proof.Machine
end

