-- ==== Sys2Proof/Machine/Pseudo.lean ====
section
/-! DEFINITION. The pseudo-instructions and the assembler notation (30_encoding.md R108, R109). -/

namespace Sys2Proof

/-- The expansion of a pseudo-instruction (30_encoding.md R109). -/
def Pseudo.expand : Pseudo → List Instr
  | .setmodcod modcod short pilots =>
    [.cfgw 0 ((BitVec.ofBool pilots ++ BitVec.ofBool short ++ modcod).setWidth 16)]
  | .setrolloff a => [.cfgw 1 a]
  | .txframe => [.ldbb, .bchenc, .ldpcenc, .ilv, .map, .plfrm, .shape]
  | .rxdecode => [.demap, .deilv, .ldpcdec, .bchdec, .stbb]

/-- A command in the assembler notation of 30_encoding.md R108: the mnemonic in capitals, operands in decimal,
comma separated. -/
def Instr.asm : Instr → String
  | .reset => "RESET"
  | .cfgw idx imm => "CFGW " ++ toString idx.toNat ++ ", " ++ toString imm.toNat
  | .cfgr idx => "CFGR " ++ toString idx.toNat
  | .start => "START"
  | .stop => "STOP"
  | .rdstat idx => "RDSTAT " ++ toString idx.toNat
  | .clrev mask => "CLREV " ++ toString mask.toNat
  | .ldbb => "LDBB"
  | .bchenc => "BCHENC"
  | .ldpcenc => "LDPCENC"
  | .ilv => "ILV"
  | .map => "MAP"
  | .plfrm => "PLFRM"
  | .shape => "SHAPE"
  | .mfilt n => "MFILT " ++ toString n.toNat
  | .sync n => "SYNC " ++ toString n.toNat
  | .demap => "DEMAP"
  | .deilv => "DEILV"
  | .ldpcdec => "LDPCDEC"
  | .bchdec => "BCHDEC"
  | .stbb => "STBB"

namespace Machine

/-- The commands of an expansion run one after the other; a response other than `OK` stops it (30_encoding.md R109). -/
def runExpansion : List Instr → State → StepResult
  | [], s => .next s
  | i :: rest, s =>
    match exec i s with
    | .next t =>
      match t.rsp.getLast? with
      | some r => if r.status = 0x00 then runExpansion rest t else .next t
      | none => .next t
    | .fault f => .fault f
    | .refused f => .refused f

/-- A pseudo-instruction (30_encoding.md R109). -/
def runPseudo (i : Pseudo) (s : State) : StepResult := runExpansion i.expand s

end Machine

end Sys2Proof
end

