-- ==== Sys2Proof/Safety.lean ====
section
/-! DEFINITION. What a sound state is: the invariants the spec states (47_synchronizer.md R342, 10_state.md R21, R36,
R39, R41, R46 to R48, R51), the checks of a command word in the order of 30_encoding.md R104, and the parts of the state
that belong to each chain (20_memory.md R80). -/

namespace Sys2Proof.Safety

open Sys2Proof.Machine

/-! ### The checks of a command word -/

/-- The formats of 30_encoding.md R100; format R is split by which of its fields must be 0. -/
inductive Format where
  | n | regImm | regOnly | mask | count
deriving DecidableEq, Repr

/-- The column "needs SESSION" of 30_encoding.md R103. -/
inductive Needs where
  | any | idle | active
deriving DecidableEq, Repr

/-- A row of the opcode map (30_encoding.md R103); `last` is the greatest index of a register in format R. -/
structure OpcodeRow where
  opc : Nat
  format : Format
  last : Nat
  needs : Needs
deriving DecidableEq, Repr

/-- The opcode map (30_encoding.md R103). -/
def opcodeMap : List OpcodeRow :=
  [⟨0x01, .n, 0, .any⟩, ⟨0x02, .regImm, 13, .idle⟩, ⟨0x03, .regOnly, 13, .any⟩, ⟨0x04, .n, 0, .idle⟩, ⟨0x05, .n, 0, .any⟩,
   ⟨0x06, .regOnly, 21, .any⟩, ⟨0x07, .mask, 0, .any⟩,
   ⟨0x10, .n, 0, .active⟩, ⟨0x11, .n, 0, .active⟩, ⟨0x12, .n, 0, .active⟩, ⟨0x13, .n, 0, .active⟩, ⟨0x14, .n, 0, .active⟩,
   ⟨0x15, .n, 0, .active⟩, ⟨0x16, .n, 0, .active⟩, ⟨0x20, .count, 0, .active⟩, ⟨0x21, .count, 0, .active⟩,
   ⟨0x22, .n, 0, .active⟩, ⟨0x23, .n, 0, .active⟩, ⟨0x24, .n, 0, .active⟩, ⟨0x25, .n, 0, .active⟩, ⟨0x26, .n, 0, .active⟩]

/-- A field that the format says must be 0 is 0 (30_encoding.md R100, R104 check 2); `idx` is w[23:16], `imm` w[15:0]. -/
def mustBeZeroOk (f : Format) (idx imm : Nat) : Bool :=
  match f with
  | .n => idx == 0 && imm == 0
  | .regImm => true
  | .regOnly => imm == 0
  | .mask => idx == 0
  | .count => idx == 0

/-- The session is the one the row asks for (30_encoding.md R104 check 5). -/
def sessionOk (n : Needs) (s : Session) : Bool :=
  match n, s with
  | .any, _ => true
  | .idle, .idle => true
  | .idle, .active _ => false
  | .active, .idle => false
  | .active, .active _ => true

/-- The first of checks 1 to 5 of 30_encoding.md R104 that the word `w` fails, with its sub-cause (60_exceptions.md
R351). -/
def firstFailure (w : BitVec 32) (s : State) : Option Nat :=
  let idx := w.toNat / 65536 % 256
  let imm := w.toNat % 65536
  match opcodeMap.find? (fun r => r.opc == w.toNat / 16777216) with
  | none => some 1
  | some r =>
    if !mustBeZeroOk r.format idx imm then some 2
    else if (r.format == .regImm || r.format == .regOnly) && decide (idx > r.last) then some 3
    else if r.format == .count && imm == 0 then some 5
    else if !sessionOk r.needs s.session then some 4
    else none

/-- The enabling condition of a command (40_session_control.md R143); the commands that are not stage operations, and
SYNC, are always enabled. -/
def enabled (i : Instr) (s : State) : Bool :=
  match s.session with
  | .idle => true
  | .active p =>
    match i with
    | .ldbb => s.tb0.isNone && !s.bbin.isEmpty
    | .bchenc => s.tb0.isSome && s.tb1.isNone
    | .ldpcenc => s.tb1.isSome && s.tb2.isNone
    | .ilv => s.tb2.isSome && s.tb3.isNone
    | .map => s.tb3.isSome && s.tb4.isNone
    | .plfrm => s.tb4.isSome && s.tb5.isNone
    | .shape => s.tb5.isSome && decide (s.txq.length + p.lpl * p.sps ≤ s.rom.txqDepth)
    | .mfilt n => decide (n.toNat ≤ s.rxq.length) && decide (s.mfq.length + n.toNat ≤ s.rom.rxqDepth)
    | .demap => s.rb4.isSome && s.rb3.isNone
    | .deilv => s.rb3.isSome && s.rb2.isNone
    | .ldpcdec => s.rb2.isSome && s.rb1.isNone
    | .bchdec => s.rb1.isSome && s.rb0.isNone
    | .stbb => s.rb0.isSome && s.bboutReady
    | .reset | .cfgw _ _ | .cfgr _ | .start | .stop | .rdstat _ | .clrev _ | .sync _ => true

/-! ### The exceptions and START's checks, as the spec's tables -/

/-- The rows of 60_exceptions.md R351: each exception with its code, its sub-cause and its event bit. -/
def exceptionTable : List (Exc × Nat × Nat × Nat) :=
  [(.configurationError .unknownModcod, 1, 1, 0), (.configurationError .reservedBits, 1, 2, 0),
   (.configurationError .badRolloff, 1, 3, 0), (.configurationError .badSps, 1, 4, 0),
   (.configurationError .badSpan, 1, 5, 0), (.configurationError .noTaps, 1, 6, 0),
   (.configurationError .badMaxiter, 1, 7, 0), (.configurationError .badLlr, 1, 8, 0),
   (.configurationError .badMiss, 1, 9, 0), (.uncorrectableFrame, 2, 1, 1), (.synchronizationLoss, 3, 1, 2),
   (.streamUnderrun, 4, 1, 3), (.streamOverrun, 5, 1, 4), (.txChunkError .short, 6, 1, 5), (.txChunkError .long, 6, 2, 5),
   (.illegalCommand .reservedOpcode, 7, 1, 6), (.illegalCommand .reservedField, 7, 2, 6),
   (.illegalCommand .badIndex, 7, 3, 6), (.illegalCommand .wrongState, 7, 4, 6), (.illegalCommand .zeroCount, 7, 5, 6)]

/-- Configuration register `i` as a number. -/
def cfgNat (s : State) (i : Nat) : Nat := (s.cfg.toList.getD i 0).toNat

/-- START's checks in the order of 40_session_control.md R134: whether each fails, and its sub-cause. -/
def startTable (s : State) : List (Bool × Nat) :=
  [(decide (128 ≤ cfgNat s 0 ∨ 128 ≤ cfgNat s 1 ∨ 64 ≤ cfgNat s 7 ∨ 2 ≤ cfgNat s 8 ∨ 64 ≤ cfgNat s 10), 2),
   (profileLookup s.rom (cfgNat s 0 % 32) (cfgNat s 0 / 32 % 2 == 1) == none, 1),
   (decide (cfgNat s 1 % 128 < 1 ∨ 100 < cfgNat s 1 % 128), 3),
   (decide (cfgNat s 2 < 2 ∨ s.rom.spsMax < cfgNat s 2), 4),
   (decide (cfgNat s 3 < 2 ∨ s.rom.spanMax < cfgNat s 3), 5),
   (rrcLookup s.rom (cfgNat s 1 % 128) (cfgNat s 2) (cfgNat s 3) == none, 6),
   (decide (cfgNat s 4 = 0), 7),
   (decide (cfgNat s 5 < 1 ∨ 127 < cfgNat s 5 ∨ cfgNat s 6 = 0 ∨ 47 < cfgNat s 7 % 64), 8),
   (decide (cfgNat s 11 = 0), 9)]

/-! ### The stages, in the spec's own terms -/

/-- The index of the input element that the interleaver of a profile puts at output index `n`: the one the platform's
permutation names, if it names one (00_scope.md R9), or else that of 43_interleaver.md R231 and R232. -/
def ilvSource (rom : Rom) (r : ProfileRow) (n : Nat) : Option Nat :=
  match rom.ilv.find? (fun e => e.modcod == r.modcod && e.short == r.short) with
  | some e => e.perm[n]?
  | none =>
    if r.order = 4 then some n
    else
      some ((if r.order = 8 ∧ r.rate = .r3_5 then r.eta - 1 - n % r.eta else n % r.eta) * (r.nldpc / r.eta) + n / r.eta)

/-- The interleaver a platform supplies for a profile, if any, is a permutation of 0 .. Nldpc-1 (00_scope.md R9). START does
not ask for it (43_interleaver.md R237). -/
def ilvTableOk (rom : Rom) (r : ProfileRow) : Bool :=
  match ilvRowOf rom r with
  | none => true
  | some perm => decide (perm.length = r.nldpc) && perm.all (fun k => decide (k < r.nldpc)) && decide perm.Nodup

/-- One component of a sample: the imaginary one where `im`, else the real one. -/
def component (im : Bool) (x : Sample) : Int := if im then x.im.toInt else x.re.toInt

/-- sat16(rnd(acc, 15)): floor((acc + 16384) / 32768), clamped to -32767 .. +32767 (46_filter.md R299). -/
def filtered (acc : Int) : Int := max (-32767) (min 32767 ((acc + 16384) / 32768))

/-- Bit `n`, from 0, of the 64 bits c of the signalling code: bit n/2 of the word w, which is the exclusive-or of the rows the
bits of MODCOD and SHORT select, and for an odd `n` its complement with pilots (45_plframer.md R275). -/
def signallingBit (modcod : Nat) (short pilots : Bool) (n : Nat) : Bool :=
  let row := fun (b : Bool) (g : Nat) => b && g.testBit (31 - n / 2)
  Bool.xor (Bool.xor (Bool.xor (Bool.xor (Bool.xor (Bool.xor
    (row (modcod.testBit 4) 0x55555555) (row (modcod.testBit 3) 0x33333333)) (row (modcod.testBit 2) 0x0F0F0F0F))
    (row (modcod.testBit 1) 0x00FF00FF)) (row (modcod.testBit 0) 0x0000FFFF)) (row short 0xFFFFFFFF))
    (n % 2 == 1 && pilots)

/-- Header bit `n`, from 0: a bit of `P_SOF`, or a bit of the signalling code scrambled with `P_PLS_SCR` (45_plframer.md R273,
R275). -/
def headerBit (rom : Rom) (p : Prof) (n : Nat) : Bool :=
  if n < rom.hdrLen - 64 then rom.sof.testBit (rom.hdrLen - 64 - 1 - n)
  else
    let c := n - (rom.hdrLen - 64)
    Bool.xor (signallingBit p.row.modcod p.row.short p.pilots c) (rom.plsScr.getLsbD (63 - c))

/-- Check `j` covers the codeword index `v`: an information bit of A_j, or the parity bits p[j] and p[j-1] (42_ldpc.md R202,
R204). -/
def covers (c : LdpcCode) (j v : Nat) : Bool :=
  (decide (v < c.kldpc) && (bitChecks c v).contains j) || v == c.kldpc + j || (decide (1 ≤ j) && v + 1 == c.kldpc + j)

/-- The codeword indices that check `j` covers, `v` apart, with a value each (42_ldpc.md R210, "w in N(c), w != v"). -/
def otherValues (c : LdpcCode) (j v : Nat) (q : Nat → Int) : List Int :=
  ((List.range (c.kldpc + c.npar)).filter (fun w => covers c j w && w != v)).map q

/-- The check-to-variable message of the values of the others: s * a (42_ldpc.md R210). -/
def checkMessage (llrmax : Nat) (q : List Int) : Int :=
  (q.map (fun x => if x < 0 then (-1 : Int) else 1)).prod * (((q.map Int.natAbs).foldl min llrmax : Nat) : Int)

/-! ### Invariants -/

/-- The latched profile is one that START accepts under this `ROM` (10_state.md R36, R37; 40_session_control.md R134). -/
def profileSound (rom : Rom) (p : Prof) : Bool :=
  (profileLookup rom p.row.modcod p.row.short == some p.row) && (rrcLookup rom p.alpha100 p.sps p.span == some p.taps) &&
  decide (1 ≤ p.alpha100) && decide (p.alpha100 ≤ 100) && decide (2 ≤ p.sps) && decide (p.sps ≤ rom.spsMax) &&
  decide (2 ≤ p.span) && decide (p.span ≤ rom.spanMax) && decide (1 ≤ p.maxiter) && decide (p.maxiter ≤ 65535) &&
  decide (1 ≤ p.llrmax) && decide (p.llrmax ≤ 127) && decide (1 ≤ p.llrscale) && decide (p.llrscale ≤ 65535) &&
  decide (p.llrshift ≤ 47) && decide (p.thresh ≤ 65535) && decide (p.tshift ≤ 63) && decide (1 ≤ p.miss) &&
  decide (p.miss ≤ 65535) && (p.lpl == plLength rom p.row p.pilots) && (p.nsym == nsymOf p.row) &&
  (p.chunkBytes == p.row.kbch / 8)

/-- The session's profile is sound, and `ST_CHUNK` and `ST_PLLEN` show it; while IDLE they are 0 (10_state.md R41). -/
def sessionSound (s : State) : Bool :=
  match s.session with
  | .idle => s.stChunk == 0 && s.stPllen == 0
  | .active p =>
    profileSound s.rom p && s.stChunk == BitVec.ofNat 32 p.chunkBytes && s.stPllen == BitVec.ofNat 32 p.lpl

/-- While IDLE nothing of a session is left (40_session_control.md R135, 70_reset_and_hazards.md R391 to R393). -/
def idleClean (s : State) : Bool :=
  match s.session with
  | .active _ => true
  | .idle =>
    s.tb0.isNone && s.tb1.isNone && s.tb2.isNone && s.tb3.isNone && s.tb4.isNone && s.tb5.isNone &&
    s.rb4.isNone && s.rb3.isNone && s.rb2.isNone && s.rb1.isNone && s.rb0.isNone &&
    s.txq.isEmpty && s.rxq.isEmpty && s.mfq.isEmpty && !s.gap && s.gapLen == 0 && s.txdl.isEmpty && s.rxdl.isEmpty &&
    s.sync == SyncState.cleared 0 0 && s.bchErrcnt == 0 && s.ldpcIter == 0

/-- The reserved bits of `ST_EVENT` and of `ST_LASTERR` read 0, and a gap is pending exactly when samples were refused
(10_state.md R38, R39, R47). -/
def flagsSound (s : State) : Bool :=
  (s.event >>> 10 == 0) && (s.lasterr >>> 16 == 0) && (s.gap == (s.gapLen != 0))

/-- A buffer that is FULL holds a frame of `n` elements (10_state.md R21). -/
def fits {α : Type} (n : Nat) (b : Option (List α)) : Bool :=
  match b with
  | none => true
  | some l => l.length == n

/-- The transmit chain's frames have the lengths the profile fixes, and `TXDL` has `span` symbols (10_state.md R21, R48). -/
def txFramesFit (s : State) : Bool :=
  match s.session with
  | .idle => true
  | .active p =>
    fits p.row.kbch s.tb0 && fits p.row.nbch s.tb1 && fits p.row.nldpc s.tb2 && fits p.row.nldpc s.tb3 &&
    fits p.nsym s.tb4 && fits p.lpl s.tb5 && s.txdl.length == p.span

/-- How many data symbols a PL frame has before the symbol of index `k` (45_plframer.md R283). -/
def dataBefore (rom : Rom) (p : Prof) (k : Nat) : Nat := (List.range k).countP (fun j => isData (symbolKind rom p j))

/-- The receive chain's frames have the lengths the profile fixes, `RXDL` has N_T - 1 samples, `WIN` (90 + 1) * sps, and
`ACC` holds exactly the data symbols of indices below `K` (10_state.md R21, R48, R51; 47_synchronizer.md R342 (2)). -/
def rxFramesFit (s : State) : Bool :=
  match s.session with
  | .idle => true
  | .active p =>
    fits p.nsym s.rb4 && fits p.row.nldpc s.rb3 && fits p.row.nldpc s.rb2 && fits p.row.nbch (s.rb1.map (·.bits)) &&
    fits p.row.kbch s.rb0 && s.rxdl.length == tapCount p.sps p.span - 1 && s.sync.win.length == winLength s.rom p.sps &&
    s.sync.acc.length == dataBefore s.rom p s.sync.k

/-- The queues hold no more than their capacities (10_state.md R46). -/
def queuesFit (s : State) : Bool :=
  decide (s.txq.length ≤ s.rom.txqDepth) && decide (s.rxq.length ≤ s.rom.rxqDepth) &&
  decide (s.mfq.length ≤ s.rom.rxqDepth)

/-- While SEARCHING every item of the synchronization state except `POS` and `WIN` is at its reset value
(47_synchronizer.md R342 (1), R316). -/
def searchingClear (y : SyncState) : Bool := y == { SyncState.cleared 0 y.pos with win := y.win }

/-- The platform's `P_TLOOP` moves `W_TIMING` no further than one slip brings back: every value it supplies is within
3 * 16384 of 0, as those of the default are (47_synchronizer.md R324, R340). -/
def loopsSound (rom : Rom) : Bool := rom.tloop.all (fun e => decide (-49152 ≤ e.2) && decide (e.2 ≤ 49152))

/-- While LOCKED: `K` < L_PL, `ACC` has as many symbols as there are data symbols of indices below `K`, no symbol instant has
been missed, `W_TIMING` is in -16384 .. 16384, `MISS` < `PROF.miss` (47_synchronizer.md R342 (2), (3), (4), (7)). -/
def lockedSound (rom : Rom) (p : Prof) (y : SyncState) : Bool :=
  decide (y.k < p.lpl) && y.acc.length == dataBefore rom p y.k && decide ((y.pos : Int) ≤ y.next + ((y.k * p.sps + 1 : Nat) : Int)) &&
  decide (-16384 ≤ y.wTiming.toInt) && decide (y.wTiming.toInt ≤ 16384) && decide (y.miss.toNat < p.miss)

/-- The invariants of 47_synchronizer.md R342 between commands. -/
def syncSound (s : State) : Bool :=
  match s.session with
  | .idle => true
  | .active p =>
    match s.sync.mode with
    | .searching => searchingClear s.sync
    | .locked => lockedSound s.rom p s.sync

/-- All of the invariants. -/
def sound (s : State) : Bool :=
  sessionSound s && idleClean s && flagsSound s && txFramesFit s && rxFramesFit s && queuesFit s && syncSound s

/-! ### The two chains -/

/-- The part of the state the transmit chain reads or writes: `ROM`, the session, `BBIN`, `TB0` to `TB5`, `TXDL`, `TXQ`,
what the radio was given, and the counters of the transmit side; every other field at its reset value. -/
def txPart (s : State) : State :=
  { State.reset with
    rom := s.rom, session := s.session, bbin := s.bbin, radioTx := s.radioTx
    tb0 := s.tb0, tb1 := s.tb1, tb2 := s.tb2, tb3 := s.tb3, tb4 := s.tb4, tb5 := s.tb5
    txdl := s.txdl, txq := s.txq, cntTxerr := s.cntTxerr, cntUnderrun := s.cntUnderrun }

/-- The part of the state the receive chain reads or writes; every other field at its reset value. -/
def rxPart (s : State) : State :=
  { State.reset with
    rom := s.rom, session := s.session, bbout := s.bbout, bboutReady := s.bboutReady
    rb4 := s.rb4, rb3 := s.rb3, rb2 := s.rb2, rb1 := s.rb1, rb0 := s.rb0
    rxdl := s.rxdl, rxq := s.rxq, mfq := s.mfq, gap := s.gap, gapLen := s.gapLen, sync := s.sync
    bchErrcnt := s.bchErrcnt, ldpcIter := s.ldpcIter
    cntUncorr := s.cntUncorr, cntSyncloss := s.cntSyncloss, cntOverrun := s.cntOverrun
    cntLdpcfail := s.cntLdpcfail, cntDropped := s.cntDropped }

/-- What belongs to the session: everything but the diagnostics that persist (counters, events, `ST_LASTERR`) and the ports
(70_reset_and_hazards.md R393). -/
def sessionPart (s : State) : State :=
  { s with
    inputs := [], bbin := [], bbout := [], bboutReady := true, rsp := [], radioTx := []
    event := 0, lasterr := 0, cntUncorr := 0, cntSyncloss := 0, cntOverrun := 0, cntUnderrun := 0, cntTxerr := 0
    cntLdpcfail := 0, cntDropped := 0 }

/-- The commands of the transmit chain (30_encoding.md R103). -/
def isTransmit : Instr → Bool
  | .ldbb | .bchenc | .ldpcenc | .ilv | .map | .plfrm | .shape => true
  | .reset | .cfgw _ _ | .cfgr _ | .start | .stop | .rdstat _ | .clrev _ | .mfilt _ | .sync _ | .demap | .deilv
  | .ldpcdec | .bchdec | .stbb => false

/-- The commands of the receive chain (30_encoding.md R103). -/
def isReceive : Instr → Bool
  | .mfilt _ | .sync _ | .demap | .deilv | .ldpcdec | .bchdec | .stbb => true
  | .reset | .cfgw _ _ | .cfgr _ | .start | .stop | .rdstat _ | .clrev _ | .ldbb | .bchenc | .ldpcenc | .ilv | .map
  | .plfrm | .shape => false

/-- The agent steps that put every item of state at its reset value: RESET and hardware reset. -/
def isReset (a : AgentStep) : Bool :=
  match a with
  | .command w => decide (decode w = .instr .reset)
  | .hardwareReset => true
  | .stopSignal | .offerChunk _ | .bboutReady _ | .radioPop | .radioPush _ => false

/-- The seven saturating counters (10_state.md R42). -/
def counters (s : State) : List (BitVec 32) :=
  [s.cntUncorr, s.cntSyncloss, s.cntOverrun, s.cntUnderrun, s.cntTxerr, s.cntLdpcfail, s.cntDropped]

end Sys2Proof.Safety
end

