-- ==== Sys2Proof/Certificates/Slice0/Obligations.lean ====
section
/-! DEFINITION. The statements about the model, one def Obligations.<Name> : Prop each (OBLIGATIONS.json says which rule of
spec/ each one formalises). A conclusion `exec i s = .next t` says that the command completes and what it leaves; a record
update on the right says the frame: every field it does not name is unchanged. -/

open Sys2Proof Sys2Proof.Machine Sys2Proof.Safety

/-! ### Encoding -/

/-- Decoding the word of a command gives the command back, for every command and every operand (30_encoding.md R100,
R103). -/
def Obligations.DecodeOfEncode : Prop :=
  ∀ i : Instr, decode (encode i) = .instr i ∧ decodeTableWord 32 (encode i).toNat = some i

/-- A word that decodes to a command is the word of that command: no two words decode to the same command
(30_encoding.md R100, R105). -/
def Obligations.EncodeOfDecode : Prop := ∀ (w : BitVec 32) (i : Instr), decode w = .instr i → encode i = w

/-- Words of 95_test_vectors.md section 11 decode to the commands written beside them. -/
def Obligations.WrittenWordsDecode : Prop :=
  decode 0x0200007F = .instr (.cfgw 0 0x7F) ∧ decode 0x02010023 = .instr (.cfgw 1 35) ∧
  decode 0x06120000 = .instr (.rdstat 18) ∧ decode 0x07000040 = .instr (.clrev 0x40) ∧
  decode 0x12000000 = .instr .ldpcenc ∧ decode 0x200002BB = .instr (.mfilt 699) ∧
  decode 0x2100FFFF = .instr (.sync 65535) ∧ decode 0x26000000 = .instr .stbb

/-- The checks of 30_encoding.md R104, in order, on every word: a word that fails one of checks 1 to 5 raises
IllegalCommand with that sub-cause and changes nothing but `EV_ILLEGAL` and `ST_LASTERR`; a command that is not enabled
(40_session_control.md R143) responds BUSY and changes nothing; any other executes, and its response is neither. -/
def Obligations.CommandChecksInOrder : Prop :=
  ∀ (w : BitVec 32) (s : State),
    (∀ c, firstFailure w s = some c →
      runCommand w s = .next { s with
        lasterr := BitVec.ofNat 32 (7 + 256 * c), event := s.event ||| 0x40
        rsp := s.rsp ++ [⟨0x87, BitVec.ofNat 32 c⟩] }) ∧
    (firstFailure w s = none → ∃ i, decode w = .instr i ∧ runCommand w s = exec i s ∧
      (enabled i s = false → exec i s = .next { s with rsp := s.rsp ++ [⟨0x01, 0⟩] }) ∧
      (enabled i s = true → ∃ t r, exec i s = .next t ∧ t.rsp = s.rsp ++ [r] ∧ r.status ≠ 0x01 ∧ r.status ≠ 0x87))

/-! ### The step -/

/-- A step takes the next pending agent step; when that is a command word that decodes, it is that command's meaning
(00_scope.md R7, 30_encoding.md R104). With nothing pending nothing happens (the model's choice, log entry 5). -/
def Obligations.StepRunsNextCommand : Prop :=
  (∀ (s : State) (w : BitVec 32) (rest : List AgentStep) (i : Instr), s.inputs = .command w :: rest → decode w = .instr i →
    step s = exec i { s with inputs := rest }) ∧
  (∀ (s : State) (a : AgentStep) (rest : List AgentStep), s.inputs = a :: rest →
    step s = agentStep a { s with inputs := rest }) ∧
  (∀ (s : State) (i : Instr), step (s.withFetchWord 32 (encode i).toNat) = exec i s) ∧
  (∀ s : State, s.inputs = [] → step s = .next s)

/-- Every step from every state answers a next state: no fault, no refusal (60_exceptions.md R362). -/
def Obligations.EveryStepAnswers : Prop := ∀ s : State, ∃ t, step s = .next t

/-- Every command produces exactly one response record, with one of six status values, and BUSY means that nothing else
changed; no other agent's step produces a record (30_encoding.md R101, 60_exceptions.md R361). -/
def Obligations.OneResponsePerCommand : Prop :=
  (∀ (i : Instr) (s : State), ∃ t r, exec i s = .next t ∧ t.rsp = s.rsp ++ [r] ∧
    r.status ∈ [0x00, 0x01, 0x81, 0x82, 0x86, 0x87] ∧ (r.status = 0x01 → t = { s with rsp := s.rsp ++ [⟨0x01, 0⟩] })) ∧
  (∀ (w : BitVec 32) (s : State), ∃ t r, runCommand w s = .next t ∧ t.rsp = s.rsp ++ [r]) ∧
  (∀ (a : AgentStep) (s : State), (∀ w, a ≠ .command w) → ∃ t, agentStep a s = .next t ∧ t.rsp = s.rsp)

/-- No step changes `ROM` (10_state.md R54). -/
def Obligations.RomNeverWritten : Prop :=
  (∀ s : State, ∃ t, step s = .next t ∧ t.rom = s.rom) ∧ (∀ (i : Instr) (s : State), ∃ t, exec i s = .next t ∧ t.rom = s.rom)

/-- A configuration register changes only by the CFGW that names it while IDLE, by RESET and by hardware reset, and that CFGW
writes it (10_state.md R24, R35). -/
def Obligations.ConfigurationFrozen : Prop :=
  ∀ (a : AgentStep) (s : State), isReset a = false → ∃ t, agentStep a s = .next t ∧
    (∀ w idx v, a = .command w → decode w = .instr (.cfgw idx v) → s.session = .idle → idx.toNat ≤ 13 →
      ∀ j, j ≤ 13 → cfgRead t j = if j = idx.toNat then v else cfgRead s j) ∧
    ((∀ w idx v, a = .command w → decode w = .instr (.cfgw idx v) → s.session = .idle → 13 < idx.toNat) → t.cfg = s.cfg)

/-- The session state machine (40_session_control.md R142): STOP, the stop signal, RESET and hardware reset lead to IDLE;
only a START that passes validation leads to ACTIVE, with the profile it latched; no other step touches `SESSION` or
`PROF`. -/
def Obligations.SessionTransitions : Prop :=
  ∀ (a : AgentStep) (s : State), ∃ t, agentStep a s = .next t ∧
    ((isReset a = true ∨ a = .stopSignal ∨ a = .command (encode .stop)) → t.session = .idle) ∧
    (∀ p, s.session = .active p → isReset a = false → a ≠ .stopSignal → a ≠ .command (encode .stop) →
      t.session = .active p) ∧
    (∀ r taps, s.session = .idle → a = .command (encode .start) → startCheck s = .ok (r, taps) →
      t.session = .active (latchProfile s r taps)) ∧
    (∀ c, s.session = .idle → a = .command (encode .start) → startCheck s = .error c → t.session = .idle) ∧
    (s.session = .idle → a ≠ .command (encode .start) → t.session = .idle)

/-- Event bits are cleared only by CLREV, by its mask, and by the two resets; counters never decrease but by the two resets
(10_state.md R39, R42). -/
def Obligations.EventsAndCountersAccumulate : Prop :=
  ∀ (a : AgentStep) (s : State), isReset a = false → ∃ t, agentStep a s = .next t ∧
    (∀ w mask, a = .command w → decode w = .instr (.clrev mask) → t.event = s.event &&& ~~~(mask.setWidth 32)) ∧
    ((∀ w mask, a = .command w → decode w ≠ .instr (.clrev mask)) → s.event &&& t.event = s.event) ∧
    List.Forall₂ (fun c d => c.toNat ≤ d.toNat) (counters s) (counters t)

/-- `ST_LASTERR` is overwritten by every exception and cleared only by RESET and hardware reset (10_state.md R44). -/
def Obligations.LastErrorRegister : Prop :=
  (∀ (e : Exc) (s : State), (raiseExc e s).lasterr = excRecord e ∧ excRecord e ≠ 0) ∧
  (∀ (a : AgentStep) (s : State), ∃ t, agentStep a s = .next t ∧ (isReset a = true → t.lasterr = 0) ∧
    (isReset a = false → t.lasterr = s.lasterr ∨ ∃ e, t.lasterr = excRecord e))

/-- Taking an exception, for every row of 60_exceptions.md R351: what R352 writes, nothing else, and the response of a
command that ends with it. -/
def Obligations.ExceptionEntry : Prop :=
  (∀ e : Exc, ∃ c n b, (e, c, n, b) ∈ exceptionTable) ∧
  (∀ (s : State) (e : Exc) (c n b : Nat), (e, c, n, b) ∈ exceptionTable →
    raiseExc e s = { s with
      lasterr := BitVec.ofNat 32 (c + 256 * n)
      event := s.event ||| BitVec.ofNat 32 (2 ^ b)
      cntUncorr := if c = 2 then satInc s.cntUncorr else s.cntUncorr
      cntSyncloss := if c = 3 then satInc s.cntSyncloss else s.cntSyncloss
      cntUnderrun := if c = 4 then satInc s.cntUnderrun else s.cntUnderrun
      cntOverrun := if c = 5 then satInc s.cntOverrun else s.cntOverrun
      cntTxerr := if c = 6 then satInc s.cntTxerr else s.cntTxerr } ∧
    failWith e s = .next { raiseExc e s with rsp := s.rsp ++ [⟨BitVec.ofNat 8 (0x80 + c), BitVec.ofNat 32 n⟩] })

/-- `BCH_ERRCNT` and `LDPC_ITER` are overwritten by each BCHDEC and LDPCDEC, set to 0 by a successful START, STOP and RESET
(and the stop signal and hardware reset, which act as STOP and RESET), and keep their value otherwise: through every other
command, every other agent step, and a BCHDEC or LDPCDEC that is illegal or BUSY (10_state.md R43). A count above 2^32 - 1 shows
modulo 2^32 (the model's choice, log entry 24). -/
def Obligations.DecoderResultRegisters : Prop :=
  (∀ (i : Instr) (s : State), ∃ t, exec i s = .next t ∧
    (i = .stop ∨ i = .reset → t.bchErrcnt = 0 ∧ t.ldpcIter = 0) ∧
    (∀ x, i = .start → s.session = .idle → startCheck s = .ok x → t.bchErrcnt = 0 ∧ t.ldpcIter = 0) ∧
    (∀ c, i = .start → startCheck s = .error c → t.bchErrcnt = s.bchErrcnt ∧ t.ldpcIter = s.ldpcIter) ∧
    (∀ p, i = .start → s.session = .active p → t.bchErrcnt = s.bchErrcnt ∧ t.ldpcIter = s.ldpcIter) ∧
    (i ≠ .start → i ≠ .stop → i ≠ .reset → i ≠ .bchdec → t.bchErrcnt = s.bchErrcnt) ∧
    (i ≠ .start → i ≠ .stop → i ≠ .reset → i ≠ .ldpcdec → t.ldpcIter = s.ldpcIter)) ∧
  (∀ (a : AgentStep) (s : State), (∀ i, a ≠ .command (encode i)) → ∃ t, agentStep a s = .next t ∧
    (a = .stopSignal ∨ a = .hardwareReset → t.bchErrcnt = 0 ∧ t.ldpcIter = 0) ∧
    (a ≠ .stopSignal → a ≠ .hardwareReset → t.bchErrcnt = s.bchErrcnt ∧ t.ldpcIter = s.ldpcIter)) ∧
  (∀ s : State, (s.session = .idle ∨ s.rb1 = none ∨ s.rb0.isSome = true) →
    ∃ t, exec .bchdec s = .next t ∧ t.bchErrcnt = s.bchErrcnt) ∧
  (∀ s : State, (s.session = .idle ∨ s.rb2 = none ∨ s.rb1.isSome = true) →
    ∃ t, exec .ldpcdec s = .next t ∧ t.ldpcIter = s.ldpcIter) ∧
  (∀ (s : State) (p : Prof) (y : TaggedFrame), s.session = .active p → s.rb1 = some y → s.rb0 = none →
    ∃ t, exec .bchdec s = .next t ∧ t.bchErrcnt =
      match bchDecode (profField s.rom p) p.row.t y.bits with
      | some (_, e) => BitVec.ofNat 32 e
      | none => 0xFFFFFFFF) ∧
  (∀ (s : State) (p : Prof) (l : List Llr), s.session = .active p → s.rb2 = some l → s.rb1 = none →
    ∃ t, exec .ldpcdec s = .next t ∧
      t.ldpcIter = BitVec.ofNat 32 (ldpcDecode (profLdpc s.rom p) p.llrmax p.maxiter l).iterations)

/-! ### Session and configuration commands -/

/-- RESET and hardware reset put every item of state at the value of 70_reset_and_hazards.md R391, with and without a response
record; `ROM` and the ports stay (R390). The delay lines and `WIN` have no element (the model's choice, log entry 10). -/
def Obligations.ResetRestores : Prop :=
  ∀ s : State, ∃ t, agentStep .hardwareReset s = .next t ∧ exec .reset s = .next { t with rsp := s.rsp ++ [⟨0x00, 0⟩] } ∧
    t.rsp = s.rsp ∧ t.rom = s.rom ∧ t.inputs = s.inputs ∧ t.bbin = s.bbin ∧ t.bbout = s.bbout ∧
    t.bboutReady = s.bboutReady ∧ t.radioTx = s.radioTx ∧
    t.session = .idle ∧ t.cfg.toList = [0, 0, 0, 0, 50, 127, 16, 24, 0, 16200, 46, 3, 0x0102, 0x0408] ∧
    t.tb0 = none ∧ t.tb1 = none ∧ t.tb2 = none ∧ t.tb3 = none ∧ t.tb4 = none ∧ t.tb5 = none ∧
    t.rb4 = none ∧ t.rb3 = none ∧ t.rb2 = none ∧ t.rb1 = none ∧ t.rb0 = none ∧
    t.txq = [] ∧ t.rxq = [] ∧ t.mfq = [] ∧ t.gap = false ∧ t.gapLen = 0 ∧ t.txdl = [] ∧ t.rxdl = [] ∧
    t.sync = SyncState.cleared 0 0 ∧ counters t = [0, 0, 0, 0, 0, 0, 0] ∧ (∀ i, i ≤ 21 → statRead t i = 0)

/-- CFGW writes all 16 bits of the register it names and no other; CFGR reads it back, in any session state
(40_session_control.md R132, R133). -/
def Obligations.ConfigurationWriteRead : Prop :=
  (∀ (s : State) (idx : BitVec 8), idx.toNat ≤ 13 →
    exec (.cfgr idx) s = .next { s with rsp := s.rsp ++ [⟨0x00, BitVec.ofNat 32 (cfgNat s idx.toNat)⟩] }) ∧
  (∀ (s : State) (idx : BitVec 8) (v : BitVec 16), s.session = .idle → idx.toNat ≤ 13 → ∃ c,
    exec (.cfgw idx v) s = .next { s with cfg := c, rsp := s.rsp ++ [⟨0x00, 0⟩] } ∧
    c.toList = s.cfg.toList.set idx.toNat v)

/-- START with a configuration that passes every check of 40_session_control.md R134 latches the profile of 10_state.md R36,
empties buffers and queues, clears the delay lines and the synchronization state, and answers the chunk size. Sizes above 2^32 - 1 show modulo 2^32 (the model's choice, log entry 24). -/
def Obligations.StartBeginsSession : Prop :=
  ∀ (s : State) (r : ProfileRow) (taps : List Int), s.session = .idle →
    cfgNat s 0 < 128 → cfgNat s 1 < 128 → cfgNat s 7 < 64 → cfgNat s 8 < 2 → cfgNat s 10 < 64 →
    profileLookup s.rom (cfgNat s 0 % 32) (cfgNat s 0 / 32 % 2 == 1) = some r →
    1 ≤ cfgNat s 1 → cfgNat s 1 ≤ 100 → 2 ≤ cfgNat s 2 → cfgNat s 2 ≤ s.rom.spsMax →
    2 ≤ cfgNat s 3 → cfgNat s 3 ≤ s.rom.spanMax →
    rrcLookup s.rom (cfgNat s 1) (cfgNat s 2) (cfgNat s 3) = some taps →
    1 ≤ cfgNat s 4 → 1 ≤ cfgNat s 5 → cfgNat s 5 ≤ 127 → 1 ≤ cfgNat s 6 → cfgNat s 7 ≤ 47 → 1 ≤ cfgNat s 11 →
    exec .start s = .next { s with
      session := .active {
        row := r, pilots := cfgNat s 0 / 64 % 2 == 1, alpha100 := cfgNat s 1, sps := cfgNat s 2, span := cfgNat s 3
        taps := taps, maxiter := cfgNat s 4, llrmax := cfgNat s 5, llrscale := cfgNat s 6, llrshift := cfgNat s 7
        hard := cfgNat s 8 == 1, thresh := cfgNat s 9, tshift := cfgNat s 10, miss := cfgNat s 11
        cloop := BitVec.ofNat 16 (cfgNat s 12), tloop := BitVec.ofNat 16 (cfgNat s 13)
        lpl := plLength s.rom r (cfgNat s 0 / 64 % 2 == 1), nsym := r.nldpc / r.eta, chunkBytes := r.kbch / 8 }
      tb0 := none, tb1 := none, tb2 := none, tb3 := none, tb4 := none, tb5 := none
      rb4 := none, rb3 := none, rb2 := none, rb1 := none, rb0 := none
      txq := [], rxq := [], mfq := [], gap := false, gapLen := 0
      txdl := List.replicate (cfgNat s 3) Sample.zero
      rxdl := List.replicate (cfgNat s 3 * cfgNat s 2) Sample.zero
      sync := SyncState.cleared ((s.rom.hdrLen + 1) * cfgNat s 2) 0
      bchErrcnt := 0, ldpcIter := 0
      stChunk := BitVec.ofNat 32 (r.kbch / 8)
      stPllen := BitVec.ofNat 32 (plLength s.rom r (cfgNat s 0 / 64 % 2 == 1))
      rsp := s.rsp ++ [⟨0x00, BitVec.ofNat 32 (r.kbch / 8)⟩] }

/-- START while IDLE reports the first check of 40_session_control.md R134 that fails, by its sub-cause, and changes nothing
but `EV_CFGERR` and `ST_LASTERR` (60_exceptions.md R354); with no failing check it does not fail. -/
def Obligations.StartReportsFirstFailure : Prop :=
  ∀ s : State, s.session = .idle →
    (∀ n, (startTable s).find? (fun e => e.1) = some (true, n) → exec .start s = .next { s with
      lasterr := BitVec.ofNat 32 (1 + 256 * n), event := s.event ||| 1, rsp := s.rsp ++ [⟨0x81, BitVec.ofNat 32 n⟩] }) ∧
    ((startTable s).find? (fun e => e.1) = none → ∃ t p, exec .start s = .next t ∧ t.session = .active p)

/-- STOP and the stop signal end the session from any state: buffers and queues empty, synchronization state reset, events,
counters and configuration untouched (40_session_control.md R135). While IDLE the delay lines and `WIN` have no element (the
model's choice, log entry 10). -/
def Obligations.StopEndsSession : Prop :=
  ∀ s : State, ∃ t, agentStep .stopSignal s = .next t ∧ exec .stop s = .next { t with rsp := s.rsp ++ [⟨0x00, 0⟩] } ∧
    t = { s with
      session := .idle, tb0 := none, tb1 := none, tb2 := none, tb3 := none, tb4 := none, tb5 := none
      rb4 := none, rb3 := none, rb2 := none, rb1 := none, rb0 := none
      txq := [], rxq := [], mfq := [], gap := false, gapLen := 0, txdl := [], rxdl := []
      sync := SyncState.cleared 0 0, bchErrcnt := 0, ldpcIter := 0, stChunk := 0, stPllen := 0 }

/-- Nothing of one session reaches the next: after STOP and START the session depends only on the configuration registers and
`ROM` (70_reset_and_hazards.md R393, 40_session_control.md R135). -/
def Obligations.SessionsIndependent : Prop :=
  ∀ s s' : State, s.rom = s'.rom → s.cfg = s'.cfg →
    ∃ t t' u u', exec .stop s = .next t ∧ exec .stop s' = .next t' ∧ exec .start t = .next u ∧ exec .start t' = .next u' ∧
      sessionPart u = sessionPart u'

/-- RDSTAT answers the register it names, with no side effect, and the registers show the state as 10_state.md R38 says
(40_session_control.md R136). That bits 31:16 of registers 15, 16 and 17 are 0, for a negative `EST_TIMING` too, is the
model's reading of R38 (log entry 19), and that a queue level above 2^32 - 1 shows modulo 2^32 is its choice (log entry 24). -/
def Obligations.StatusRegistersRead : Prop :=
  (∀ (s : State) (idx : BitVec 8), idx.toNat ≤ 21 →
    exec (.rdstat idx) s = .next { s with rsp := s.rsp ++ [⟨0x00, statRead s idx.toNat⟩] }) ∧
  (∀ s : State,
    (List.range 32).map (fun b => (statRead s 2).getLsbD b) =
      [s.tb0.isSome, s.tb1.isSome, s.tb2.isSome, s.tb3.isSome, s.tb4.isSome, s.tb5.isSome, false, false,
       s.rb0.isSome, s.rb1.isSome, s.rb2.isSome, s.rb3.isSome, s.rb4.isSome, false, false, false,
       (s.rb1.map (·.uncorr)).getD false, s.gap] ++ List.replicate 14 false) ∧
  (∀ s : State, (statRead s 0 = if s.session = .idle then 0 else 1) ∧
    (statRead s 1 = if s.sync.mode = .locked then 1 else 0) ∧
    [3, 4, 5, 6, 7, 8, 9, 10, 11, 12, 13, 14, 15, 16, 17, 18, 19, 20, 21].map (statRead s) =
      [s.event, s.lasterr, s.cntUncorr, s.cntSyncloss, s.cntOverrun, s.cntUnderrun, s.cntTxerr, s.cntLdpcfail, s.cntDropped,
       s.bchErrcnt, s.ldpcIter, s.sync.estFreq, s.sync.estPhase.setWidth 32, s.sync.estTiming.setWidth 32,
       s.sync.miss.setWidth 32, BitVec.ofNat 32 s.txq.length, BitVec.ofNat 32 s.rxq.length, s.stChunk, s.stPllen])

/-- CLREV clears exactly the event bits whose mask bit is 1 and answers the event word before clearing
(40_session_control.md R137, 60_exceptions.md R367). -/
def Obligations.ClrevAcknowledges : Prop :=
  ∀ (s : State) (mask : BitVec 16), ∃ ev,
    exec (.clrev mask) s = .next { s with event := ev, rsp := s.rsp ++ [⟨0x00, s.event⟩] } ∧
    ∀ b, b < 32 → ev.getLsbD b = (s.event.getLsbD b && !mask.getLsbD b)

/-! ### Payload and radio ports -/

/-- LDBB with a chunk of exactly `chunk_bytes` bytes: the chunk is consumed and its bits are in `TB0`, byte 0 first, the most
significant bit of each byte first (40_session_control.md R138, 20_memory.md R73). -/
def Obligations.LdbbLoadsChunk : Prop :=
  ∀ (s : State) (p : Prof) (c : List Byte) (rest : List (List Byte)), s.session = .active p → s.tb0 = none →
    s.bbin = c :: rest → c.length = p.chunkBytes → ∃ b,
      exec .ldbb s = .next { s with bbin := rest, tb0 := some b, rsp := s.rsp ++ [⟨0x00, 0⟩] } ∧
      b.length = 8 * p.chunkBytes ∧
      ∀ i j, i < p.chunkBytes → j < 8 → b.getD (8 * i + j) false = (c.getD i 0).getLsbD (7 - j)

/-- LDBB with a chunk of another length raises TxChunkError: the chunk is consumed, `TB0` stays EMPTY (60_exceptions.md R359). -/
def Obligations.LdbbRejectsWrongLength : Prop :=
  ∀ (s : State) (p : Prof) (c : List Byte) (rest : List (List Byte)), s.session = .active p → s.tb0 = none →
    s.bbin = c :: rest →
    (c.length < p.chunkBytes → exec .ldbb s = .next { s with
      bbin := rest, lasterr := 0x0106, event := s.event ||| 0x20, cntTxerr := satInc s.cntTxerr
      rsp := s.rsp ++ [⟨0x86, 1⟩] }) ∧
    (p.chunkBytes < c.length → exec .ldbb s = .next { s with
      bbin := rest, lasterr := 0x0206, event := s.event ||| 0x20, cntTxerr := satInc s.cntTxerr
      rsp := s.rsp ++ [⟨0x86, 2⟩] })

/-- STBB delivers `RB0` as one chunk of `chunk_bytes` bytes, with the bit order of 20_memory.md R73, and empties `RB0`
(40_session_control.md R139). A response value above 2^32 - 1 shows modulo 2^32 (the model's choice, log entry 24). -/
def Obligations.StbbStoresChunk : Prop :=
  ∀ (s : State) (p : Prof) (b : List Bool), s.session = .active p → s.rb0 = some b → s.bboutReady = true → ∃ c : List Byte,
    exec .stbb s = .next { s with
      rb0 := none, bbout := s.bbout ++ [c], rsp := s.rsp ++ [⟨0x00, BitVec.ofNat 32 p.chunkBytes⟩] } ∧
    c.length = p.chunkBytes ∧
    (b.length = 8 * p.chunkBytes →
      ∀ i j, i < p.chunkBytes → j < 8 → (c.getD i 0).getLsbD (7 - j) = b.getD (8 * i + j) false)

/-- The two steps of the radio interface (40_session_control.md R140, R141): a pop takes the head of `TXQ` or raises
StreamUnderrun; a push appends with the pending gap tag or raises StreamOverrun and counts the gap; both do nothing while
IDLE. -/
def Obligations.RadioSteps : Prop :=
  (∀ (s : State) (x : Sample), s.session = .idle →
    agentStep .radioPop s = .next s ∧ agentStep (.radioPush x) s = .next s) ∧
  (∀ (s : State) (p : Prof), s.session = .active p → s.txq = [] → agentStep .radioPop s = .next { s with
    lasterr := 0x0104, event := s.event ||| 0x08, cntUnderrun := satInc s.cntUnderrun }) ∧
  (∀ (s : State) (p : Prof) (x : Sample) (rest : List Sample), s.session = .active p → s.txq = x :: rest →
    agentStep .radioPop s = .next { s with txq := rest, radioTx := s.radioTx ++ [x] }) ∧
  (∀ (s : State) (p : Prof) (x : Sample), s.session = .active p → s.rom.rxqDepth ≤ s.rxq.length →
    agentStep (.radioPush x) s = .next { s with
      lasterr := 0x0105, event := s.event ||| 0x10, cntOverrun := satInc s.cntOverrun
      gap := true, gapLen := satInc s.gapLen }) ∧
  (∀ (s : State) (p : Prof) (x : Sample), s.session = .active p → s.rxq.length < s.rom.rxqDepth →
    agentStep (.radioPush x) s = .next { s with
      rxq := s.rxq ++ [⟨x, s.gap, s.gapLen⟩], gap := false, gapLen := 0 })

/-! ### BCH -/

/-- BCHENC leaves the message followed by m * t parity bits, and where the generator polynomial g has that degree the
codeword, read as a polynomial with its first bit the highest power, is a multiple of g (41_bch.md R168, R170, R171). -/
def Obligations.BchencMakesCodeword : Prop :=
  ∀ (s : State) (p : Prof) (u : List Bool), s.session = .active p → s.tb0 = some u → s.tb1 = none → ∃ d,
    exec .bchenc s = .next { s with tb0 := none, tb1 := some (u ++ d), rsp := s.rsp ++ [⟨0x00, 0⟩] } ∧
    d.length = p.row.m * p.row.t ∧
    (profGenerator s.rom p ≠ 0 → Nat.log2 (profGenerator s.rom p) = p.row.m * p.row.t →
      ∃ q, natOfBits (u ++ d) = polyMul (profGenerator s.rom p) q)

/-- The BCH encoder is linear over GF(2): encode(a ^ b) = encode(a) ^ encode(b) (41_bch.md R170, R171). -/
def Obligations.BchEncoderLinear : Prop :=
  ∀ (r g : Nat) (a b : List Bool), a.length = b.length →
    bchEncode r g (List.zipWith Bool.xor a b) = List.zipWith Bool.xor (bchEncode r g a) (bchEncode r g b)

/-- BCHDEC delivers only words with all syndromes 0 within t changed bits of the received word, with the number of changed
bits as the error count; otherwise it takes UncorrectableFrame and delivers nothing (41_bch.md R175, R180, R181; the response
value 1 of a failure is log entry 8; a count above 2^32 - 1 shows modulo 2^32, log entry 24). -/
def Obligations.BchdecBounded : Prop :=
  ∀ (s : State) (p : Prof) (y : TaggedFrame), s.session = .active p → s.rb1 = some y → s.rb0 = none →
    (∀ c e, bchDecode (profField s.rom p) p.row.t y.bits = some (c, e) →
      c.length = y.bits.length ∧ e ≤ p.row.t ∧ (List.zipWith Bool.xor c y.bits).count true = e ∧
      (∀ x ∈ syndromes (profField s.rom p) p.row.t c, x = 0) ∧
      exec .bchdec s = .next { s with
        rb1 := none, rb0 := some (c.take p.row.kbch), bchErrcnt := BitVec.ofNat 32 e
        rsp := s.rsp ++ [⟨0x00, BitVec.ofNat 32 e⟩] }) ∧
    (bchDecode (profField s.rom p) p.row.t y.bits = none →
      exec .bchdec s = .next { s with
        rb1 := none, bchErrcnt := 0xFFFFFFFF, lasterr := 0x0102, event := s.event ||| 2
        cntUncorr := satInc s.cntUncorr, rsp := s.rsp ++ [⟨0x82, 1⟩] })

/-- The TOY code corrects every pattern of at most t = 2 flipped bits of every codeword, and reports how many (41_bch.md R175,
R182, R185). -/
def Obligations.ToyBchCorrectsTwo : Prop :=
  bchGenerator [0x25, 0x3D] 2 = 0x769 ∧
  ∀ u e : List Bool, u.length = 8 → e.length = 18 → e.count true ≤ 2 →
    bchDecode ⟨5, 0x25⟩ 2 (List.zipWith Bool.xor (bchEncode 10 0x769 u) e) = some (bchEncode 10 0x769 u, e.count true)

/-! ### LDPC -/

/-- LDPCENC leaves the information bits followed by npar parity bits, and, where no information bit enters a check twice
(42_ldpc.md R204), every parity check of the code holds (R202, R205). -/
def Obligations.LdpcencSatisfiesChecks : Prop :=
  ∀ (s : State) (p : Prof) (i : List Bool), s.session = .active p → s.tb1 = some i → s.tb2 = none → ∃ par,
    exec .ldpcenc s = .next { s with tb1 := none, tb2 := some (i ++ par), rsp := s.rsp ++ [⟨0x00, 0⟩] } ∧
    par.length = p.row.nldpc - p.row.kldpc ∧
    (i.length = p.row.kldpc → (∀ m, m < p.row.kldpc → (bitChecks (profLdpc s.rom p) m).Nodup) →
      ∀ vs ∈ ldpcChecks (profLdpc s.rom p), xorAll (vs.map (fun v => (i ++ par).getD v false)) = false)

/-- LDPCDEC delivers the information part of the word the decoder of 42_ldpc.md R210 answers: with the tag 0 exactly where
every check holds for that word, and else with the tag 1 after exactly `maxiter` iterations (R211, R212). And the decoder's
iterations (R209, R210): `P k` and `R k` are the posteriors and the messages after k iterations. The posteriors start at the
clamped inputs and the messages at 0; an iteration takes each message from the old posteriors and messages of the other members
of its check, and each posterior from the input and the new messages; the answer is the hard decisions after the first iteration
at which every check holds, or after `maxiter`. A count above
2^32 - 1 shows modulo 2^32 (log entry 24). -/
def Obligations.LdpcdecOutcome : Prop :=
  (∀ (s : State) (p : Prof) (l : List Llr), s.session = .active p → s.rb2 = some l → s.rb1 = none →
    let d := ldpcDecode (profLdpc s.rom p) p.llrmax p.maxiter l
    let ok := checksHold (ldpcChecks (profLdpc s.rom p)) d.word
    d.word.length = l.length ∧ d.iterations ≤ p.maxiter ∧ (ok = false → d.iterations = p.maxiter) ∧
    exec .ldpcdec s = .next { s with
      rb2 := none, rb1 := some ⟨d.word.take p.row.kldpc, !ok⟩, ldpcIter := BitVec.ofNat 32 d.iterations
      cntLdpcfail := if ok then s.cntLdpcfail else satInc s.cntLdpcfail
      event := if ok then s.event else s.event ||| 0x100
      rsp := s.rsp ++ [⟨0x00, BitVec.ofNat 32 d.iterations ||| (if ok then 0 else 0x10000)⟩] }) ∧
  (∀ (c : LdpcCode) (llrmax maxiter : Nat) (lin : List Llr), lin.length = c.kldpc + c.npar →
    ∃ (P : Nat → Nat → Int) (R : Nat → Nat → Nat → Int),
      let d := ldpcDecode c llrmax maxiter lin
      let clamp := fun x : Int => max (-(llrmax : Int)) (min (llrmax : Int) x)
      let hard := fun k => (List.range lin.length).map (fun v => decide (P k v < 0))
      (∀ v, v < lin.length → P 0 v = clamp (lin.getD v 0).toInt) ∧ (∀ j v, R 0 j v = 0) ∧
      (∀ k j v, j < c.npar → covers c j v = true → v < lin.length →
        R (k + 1) j v = checkMessage llrmax (otherValues c j v (fun w => clamp (P k w - R k j w)))) ∧
      (∀ k v, v < lin.length → P (k + 1) v = clamp ((lin.map (fun x => clamp x.toInt)).getD v 0 +
        (((List.range c.npar).filter (fun j => covers c j v)).map (fun j => R (k + 1) j v)).sum)) ∧
      d.word = hard d.iterations ∧ d.iterations ≤ maxiter ∧
      (∀ k, k < d.iterations → checksHold (ldpcChecks c) (hard k) = false) ∧
      d.converged = checksHold (ldpcChecks c) d.word ∧ (d.converged = false → d.iterations = maxiter))

/-- A clean frame: where the signs of the LLRs are a codeword the encoder made, LDPCDEC converges with 0 iterations and
delivers the information bits (42_ldpc.md R205, R211). -/
def Obligations.LdpcCleanRoundTrip : Prop :=
  ∀ (s : State) (p : Prof) (i : List Bool) (l : List Llr), s.session = .active p → s.rb2 = some l → s.rb1 = none →
    1 ≤ p.llrmax → i.length = p.row.kldpc → (∀ m, m < p.row.kldpc → (bitChecks (profLdpc s.rom p) m).Nodup) →
    l.map (fun x => decide (x.toInt < 0)) = i ++ ldpcParity (profLdpc s.rom p) i →
    exec .ldpcdec s = .next { s with
      rb2 := none, rb1 := some ⟨i, false⟩, ldpcIter := 0, rsp := s.rsp ++ [⟨0x00, 0⟩] }

/-! ### Interleaver -/

/-- ILV puts at each output index the bit of the input index that 43_interleaver.md R231 and R232 name, or that the platform's
`P_ILV` names (00_scope.md R9), and only reorders the bits where `P_ILV` is a permutation (R234). A table that is none raises
nothing (R237). -/
def Obligations.IlvPermutes : Prop :=
  ∀ (s : State) (p : Prof) (x : List Bool), s.session = .active p → s.tb2 = some x → s.tb3 = none → ∃ y,
    exec .ilv s = .next { s with tb2 := none, tb3 := some y, rsp := s.rsp ++ [⟨0x00, 0⟩] } ∧ y.length = x.length ∧
    (2 ≤ p.row.eta → p.row.order = 2 ^ p.row.eta → p.row.nldpc % p.row.eta = 0 → x.length = p.row.nldpc →
      (∀ n k, n < p.row.nldpc → ilvSource s.rom p.row n = some k → k < p.row.nldpc → y[n]? = x[k]?) ∧
      (ilvTableOk s.rom p.row = true → y.Perm x ∧
        ∀ n, n < p.row.nldpc → ∃ k, k < p.row.nldpc ∧ ilvSource s.rom p.row n = some k))

/-- DEILV moves each LLR back to the input index its bit came from; the last one stays where a platform's table names an index
twice, which is the model's choice, read from the upward loop of R236 (log entry 23); de-interleaving and interleaving are inverse to each other for every profile and every sequence of length Nldpc; and no
command looks at `P_ILV` to raise anything: START takes any table, ILV (IlvPermutes) and DEILV run with it
(43_interleaver.md R233, R236, R237). -/
def Obligations.DeilvInverts : Prop :=
  (∀ (s : State) (p : Prof) (y : List Llr), s.session = .active p → s.rb3 = some y → s.rb2 = none → ∃ x,
    exec .deilv s = .next { s with rb3 := none, rb2 := some x, rsp := s.rsp ++ [⟨0x00, 0⟩] } ∧ x.length = y.length ∧
    (2 ≤ p.row.eta → p.row.order = 2 ^ p.row.eta → p.row.nldpc % p.row.eta = 0 → y.length = p.row.nldpc →
      (∀ n k, n < p.row.nldpc → ilvSource s.rom p.row n = some k → k < p.row.nldpc →
        (∀ n', n < n' → n' < p.row.nldpc → ilvSource s.rom p.row n' ≠ some k) → x[k]? = y[n]?) ∧
      (ilvTableOk s.rom p.row = true → x.Perm y))) ∧
  (∀ (α : Type) (free free' : Nat → α) (rom : Rom) (r : ProfileRow) (x : List α), r.nldpc % r.eta = 0 →
    ilvTableOk rom r = true → x.length = r.nldpc →
    deinterleave (ilvOf rom r) free (interleave (ilvOf rom r) free' x) = x ∧
    interleave (ilvOf rom r) free (deinterleave (ilvOf rom r) free' x) = x) ∧
  (∀ (rom : Rom) (rows : List IlvRow) (modcod : Nat) (short : Bool),
    profileLookup { rom with ilv := rows } modcod short = profileLookup rom modcod short)

/-! ### Mapper and demapper -/

/-- MAP makes one symbol of each group of eta bits: the table's point for the label whose most significant bit is the group's
first bit (44_mapper.md R246, R253). A response value above 2^32 - 1 shows modulo 2^32 (the model's choice, log entry 24). -/
def Obligations.MapSelectsPoints : Prop :=
  ∀ (s : State) (p : Prof) (b : List Bool), s.session = .active p → s.tb3 = some b → s.tb4 = none → ∃ d,
    exec .map s = .next { s with tb3 := none, tb4 := some d, rsp := s.rsp ++ [⟨0x00, BitVec.ofNat 32 p.nsym⟩] } ∧
    d.length = p.nsym ∧
    (b.length = p.nsym * p.row.eta → ∀ k, k < p.nsym → ∃ l, l < 2 ^ p.row.eta ∧
      (∀ i, i < p.row.eta → l.testBit (p.row.eta - 1 - i) = b.getD (k * p.row.eta + i) false) ∧
      d.getD k Sample.zero = (pointsOf s.rom p.row.order p.row.rate).getD l Sample.zero)

/-- DEMAP in hard mode: the bits of the label of the nearest point, the smallest such label, as LLRs of magnitude `llrmax`,
negative for a 1 (44_mapper.md R257, R258). -/
def Obligations.DemapHardDecides : Prop :=
  ∀ (s : State) (p : Prof) (y : List Sample), s.session = .active p → s.rb4 = some y → s.rb3 = none → p.hard = true → ∃ l,
    exec .demap s = .next { s with rb4 := none, rb3 := some l, rsp := s.rsp ++ [⟨0x00, 0⟩] } ∧
    l.length = y.length * p.row.eta ∧
    (p.llrmax ≤ 127 → pointsOf s.rom p.row.order p.row.rate ≠ [] → ∀ k, k < y.length →
      ∃ a, a < (pointsOf s.rom p.row.order p.row.rate).length ∧
        (∀ a', a' < (pointsOf s.rom p.row.order p.row.rate).length →
          dist2 (y.getD k Sample.zero) ((pointsOf s.rom p.row.order p.row.rate).getD a Sample.zero) ≤
            dist2 (y.getD k Sample.zero) ((pointsOf s.rom p.row.order p.row.rate).getD a' Sample.zero)) ∧
        (∀ a', a' < a →
          dist2 (y.getD k Sample.zero) ((pointsOf s.rom p.row.order p.row.rate).getD a Sample.zero) <
            dist2 (y.getD k Sample.zero) ((pointsOf s.rom p.row.order p.row.rate).getD a' Sample.zero)) ∧
        ∀ i, i < p.row.eta → (l.getD (k * p.row.eta + i) 0).toInt =
          if a.testBit (p.row.eta - 1 - i) then -(p.llrmax : Int) else p.llrmax)

/-- DEMAP in soft mode: each LLR is the difference D of the least squared distances to a point with the bit 1 and to one with
the bit 0, weighted by LLRSCALE / 2^LLRSHIFT, rounded toward zero and clamped to `llrmax` (44_mapper.md R256, R258). -/
def Obligations.DemapSoftWeighs : Prop :=
  ∀ (s : State) (p : Prof) (y : List Sample), s.session = .active p → s.rb4 = some y → s.rb3 = none → p.hard = false → ∃ l,
    exec .demap s = .next { s with rb4 := none, rb3 := some l, rsp := s.rsp ++ [⟨0x00, 0⟩] } ∧
    l.length = y.length * p.row.eta ∧
    (p.llrmax ≤ 127 → (pointsOf s.rom p.row.order p.row.rate).length = 2 ^ p.row.eta →
      ∀ k i, k < y.length → i < p.row.eta → ∃ least : Bool → Int,
        (∀ v, (∃ a, a < 2 ^ p.row.eta ∧ a.testBit (p.row.eta - 1 - i) = v ∧ least v =
            dist2 (y.getD k Sample.zero) ((pointsOf s.rom p.row.order p.row.rate).getD a Sample.zero)) ∧
          ∀ a, a < 2 ^ p.row.eta → a.testBit (p.row.eta - 1 - i) = v → least v ≤
            dist2 (y.getD k Sample.zero) ((pointsOf s.rom p.row.order p.row.rate).getD a Sample.zero)) ∧
        (l.getD (k * p.row.eta + i) 0).toInt =
          max (-(p.llrmax : Int)) (min (p.llrmax : Int)
            (if least true < least false
             then -(((least false - least true).toNat * p.llrscale / 2 ^ p.llrshift : Nat) : Int)
             else (((least true - least false).toNat * p.llrscale / 2 ^ p.llrshift : Nat) : Int))))

/-- Without noise the signs of the demapped LLRs are the mapped bits, for every table of the default configuration, in hard
mode and in soft mode with the default weight (44_mapper.md R260). -/
def Obligations.MapDemapRoundTrip : Prop :=
  ∀ (c : Constellation) (p : Prof) (nsym : Nat) (b : List Bool), c ∈ standardConstellations → c.order = 2 ^ p.row.eta →
    1 ≤ p.llrmax → p.llrmax ≤ 127 → (p.hard = true ∨ (p.llrscale = 16 ∧ p.llrshift = 24)) →
    b.length = nsym * p.row.eta →
    (demapFrame c.points p (mapFrame c.points p.row.eta nsym b)).map (fun x => decide (x.toInt < 0)) = b

/-! ### Framer and filters -/

/-- PLFRM builds a PL frame of L_PL symbols in which the symbol at every index is the one that `kind` names: a header
symbol, a data symbol of `TB4`, or the pilot symbol (45_plframer.md R271, R279, R282, R283). The header `HDR(profile)` has
`P_HDR_LEN` symbols, symbol i made of header bit i (from 0) by the pi/2-shifted BPSK of R276, the bits those of `P_SOF` and of the
scrambled signalling code (R273, R275, R277), in the default configuration with the constants of R272, R273 and R275. That
`P_SOF` has `P_HDR_LEN` - 64 bits where a platform's `P_HDR_LEN` is not 90 is the model's choice (log entry 4). A response value above 2^32 - 1 shows modulo 2^32 (the model's choice, log entry 24). -/
def Obligations.PlfrmBuildsFrame : Prop :=
  (∀ (s : State) (p : Prof) (d : List Sample), s.session = .active p → s.tb4 = some d → s.tb5 = none → ∃ f,
    exec .plfrm s = .next { s with tb4 := none, tb5 := some f, rsp := s.rsp ++ [⟨0x00, BitVec.ofNat 32 p.lpl⟩] } ∧
    (0 < s.rom.slotLen → 0 < s.rom.pilotPeriod → 0 < slotsOf s.rom p.row →
      d.length = slotsOf s.rom p.row * s.rom.slotLen → p.lpl = plLength s.rom p.row p.pilots →
      f.length = p.lpl ∧ (profHeader s.rom p).length = s.rom.hdrLen ∧
      ∀ k, k < p.lpl →
        match symbolKind s.rom p k with
        | .header n => n < s.rom.hdrLen ∧ f.getD k Sample.zero = (profHeader s.rom p).getD n Sample.zero
        | .data n => n < d.length ∧ f.getD k Sample.zero = d.getD n Sample.zero
        | .pilot b n => b < pilotBlocks s.rom p.row p.pilots ∧ n < s.rom.pilotLen ∧ f.getD k Sample.zero = s.rom.pilotSym)) ∧
  (∀ (rom : Rom) (p : Prof), 64 ≤ rom.hdrLen → (profHeader rom p).length = rom.hdrLen ∧
    ∀ n, n < rom.hdrLen →
      ((profHeader rom p).getD n Sample.zero).im.toInt = (if headerBit rom p n then -2896 else 2896) ∧
      ((profHeader rom p).getD n Sample.zero).re.toInt =
        (if headerBit rom p n = (n % 2 == 0) then -2896 else 2896)) ∧
  (defaultRom.hdrLen = 90 ∧ defaultRom.sof = 0x18D2E82 ∧ defaultRom.plsScr = 0x719D83C953422DFA ∧ defaultRom.slotLen = 90)

/-- SHAPE appends sps samples for each symbol, each the rounded and saturated sum of 46_filter.md R299 over that symbol and the
`span` symbols before it, d[0] being the symbol itself, and keeps the last `span` symbols (R300). A response value above 2^32 - 1
shows modulo 2^32 (the model's choice, log entry 24). -/
def Obligations.ShapeFilters : Prop :=
  ∀ (s : State) (p : Prof) (f : List Sample), s.session = .active p → s.tb5 = some f →
    s.txq.length + p.lpl * p.sps ≤ s.rom.txqDepth → ∃ out dl,
      exec .shape s = .next { s with
        tb5 := none, txq := s.txq ++ out, txdl := dl, rsp := s.rsp ++ [⟨0x00, BitVec.ofNat 32 (p.lpl * p.sps)⟩] } ∧
      out.length = f.length * p.sps ∧
      (s.txdl.length = p.span → p.taps.length = p.span * p.sps + 1 → dl = (f.reverse ++ s.txdl).take p.span ∧
        ∀ n q im, n < f.length → q < p.sps → ∀ d, d = (f.take (n + 1)).reverse ++ s.txdl →
          component im (out.getD (n * p.sps + q) Sample.zero) = filtered
            (((List.range (p.span + 1)).filter (fun j => decide (q + j * p.sps ≤ p.span * p.sps))).map (fun j =>
              p.taps.getD (q + j * p.sps) 0 * component im (d.getD j Sample.zero))).sum)

/-- MFILT moves n samples from `RXQ` to `MFQ`, each replaced by the rounded and saturated sum of 46_filter.md R303 over it and
the N_T - 1 samples before it, e[0] being the sample itself, and keeping its gap tag, and keeps the last N_T - 1 samples. -/
def Obligations.MfiltFilters : Prop :=
  ∀ (s : State) (p : Prof) (n : BitVec 16), s.session = .active p → n.toNat ≠ 0 → n.toNat ≤ s.rxq.length →
    s.mfq.length + n.toNat ≤ s.rom.rxqDepth → ∃ out dl,
      exec (.mfilt n) s = .next { s with
        rxq := s.rxq.drop n.toNat, mfq := s.mfq ++ out, rxdl := dl, rsp := s.rsp ++ [⟨0x00, n.setWidth 32⟩] } ∧
      out.length = n.toNat ∧
      (p.taps.length = p.span * p.sps + 1 → s.rxdl.length = p.span * p.sps →
        dl = (((s.rxq.take n.toNat).map (·.sample)).reverse ++ s.rxdl).take (p.span * p.sps) ∧
        ∀ k x, k < n.toNat → s.rxq[k]? = some x → ∃ y, out[k]? = some y ∧ y.gap = x.gap ∧ y.gapLen = x.gapLen ∧
          ∀ im e, e = ((s.rxq.take (k + 1)).map (·.sample)).reverse ++ s.rxdl →
            component im y.sample = filtered
              ((List.range (p.span * p.sps + 1)).map (fun i =>
                p.taps.getD i 0 * component im (e.getD i Sample.zero))).sum)

/-- Splitting an MFILT does not matter, and SHAPE's output for a frame depends only on `TXDL` and the frame (46_filter.md
R305). -/
def Obligations.FilterSplitting : Prop :=
  (∀ (s : State) (p : Prof) (n1 n2 n : BitVec 16), s.session = .active p → n1.toNat ≠ 0 → n2.toNat ≠ 0 →
    n1.toNat + n2.toNat = n.toNat → n.toNat ≤ s.rxq.length → s.mfq.length + n.toNat ≤ s.rom.rxqDepth →
    ∃ t1 t2 t, exec (.mfilt n1) s = .next t1 ∧ exec (.mfilt n2) t1 = .next t2 ∧ exec (.mfilt n) s = .next t ∧
      { t2 with rsp := [] } = { t with rsp := [] } ∧ t.mfq.length = s.mfq.length + n.toNat) ∧
  (∀ (s s' : State) (p : Prof) (f : List Sample), s.session = .active p → s'.session = .active p → s.tb5 = some f →
    s'.tb5 = some f → s.txdl = s'.txdl → s.txq.length + p.lpl * p.sps ≤ s.rom.txqDepth →
    s'.txq.length + p.lpl * p.sps ≤ s'.rom.txqDepth →
    ∃ out t t', exec .shape s = .next t ∧ exec .shape s' = .next t' ∧ t.txq = s.txq ++ out ∧ t'.txq = s'.txq ++ out ∧
      t.txdl = t'.txdl ∧ t.tb5 = none ∧ t'.tb5 = none)

/-! ### Synchronizer -/

/-- SYNC consumes samples from the head of `MFQ`, at most n of them, until the queue is empty or a frame was delivered; it
never overwrites a FULL `RB4`; its LOST and DROPPED flags go with the counters and events; with `MFQ` empty it changes nothing;
and it changes nothing but what the conclusion names (47_synchronizer.md R318, R330). -/
def Obligations.SyncConsumes : Prop :=
  ∀ (s : State) (p : Prof) (n : BitVec 16), s.session = .active p → n.toNat ≠ 0 → ∃ t v,
    exec (.sync n) s = .next t ∧
    t = { s with
      mfq := s.mfq.drop (v.toNat % 65536), rb4 := t.rb4, sync := t.sync, event := t.event, lasterr := t.lasterr
      cntSyncloss := t.cntSyncloss, cntDropped := t.cntDropped, rsp := s.rsp ++ [⟨0x00, v⟩] } ∧
    v.toNat < 2 ^ 20 ∧ v.toNat % 65536 ≤ n.toNat ∧ v.toNat % 65536 ≤ s.mfq.length ∧
    (v.toNat % 65536 = n.toNat ∨ t.mfq = [] ∨ v.getLsbD 16 = true) ∧
    v.getLsbD 16 = (s.rb4.isNone && t.rb4.isSome) ∧ (∀ f, s.rb4 = some f → t.rb4 = some f) ∧
    (v.getLsbD 17 = true → t.event.getLsbD 2 = true ∧
      min (s.cntSyncloss.toNat + 1) 0xFFFFFFFF ≤ t.cntSyncloss.toNat) ∧
    (v.getLsbD 17 = false → t.cntSyncloss = s.cntSyncloss ∧ t.lasterr = s.lasterr) ∧
    (v.getLsbD 18 = true → t.event.getLsbD 7 = true) ∧
    (v.getLsbD 19 = true → t.event.getLsbD 9 = true ∧
      min (s.cntDropped.toNat + 1) 0xFFFFFFFF ≤ t.cntDropped.toNat) ∧
    (v.getLsbD 19 = false → t.cntDropped = s.cntDropped) ∧
    (s.mfq = [] → t = { s with rsp := s.rsp ++ [⟨0x00, 0⟩] })

/-- Splitting a SYNC does not matter as long as the first part delivers no frame, and one that delivers a frame within its first
n1 samples is that shorter SYNC (47_synchronizer.md R318). So SYNC n is a run of SYNC 1. -/
def Obligations.SyncSplitting : Prop :=
  ∀ (s : State) (p : Prof) (n1 n2 n : BitVec 16), s.session = .active p → n1.toNat ≠ 0 → n2.toNat ≠ 0 →
    n1.toNat + n2.toNat = n.toNat → ∃ t1 v1, exec (.sync n1) s = .next t1 ∧ t1.rsp = s.rsp ++ [⟨0x00, v1⟩] ∧
      (v1.getLsbD 16 = true → exec (.sync n) s = .next t1) ∧
      (v1.getLsbD 16 = false → ∃ t2 t, exec (.sync n2) t1 = .next t2 ∧ exec (.sync n) s = .next t ∧
        { t2 with rsp := [] } = { t with rsp := [] })

/-- When SYNC delivers a frame, the committed estimates are the working ones, all three, the frame boundary is reached (K = 0,
`ACC` empty) and the synchronizer is still LOCKED. frame_close() delivers `ACC` into an EMPTY `RB4`, or drops and counts the
frame where `RB4` is FULL; either way the boundary moves by L_PL * sps samples and the estimates are committed (10_state.md
R50, 47_synchronizer.md R328, R330, R331). -/
def Obligations.FrameCommitsEstimates : Prop :=
  (∀ (s : State) (p : Prof) (n : BitVec 16), s.session = .active p → n.toNat ≠ 0 → ∃ t v,
    exec (.sync n) s = .next t ∧ t.rsp = s.rsp ++ [⟨0x00, v⟩] ∧
    (v.getLsbD 16 = true → t.sync.estFreq = t.sync.wDph ∧ t.sync.estPhase = t.sync.wPhase.extractLsb' 16 16 ∧
      t.sync.estTiming = t.sync.wTiming ∧ t.sync.k = 0 ∧ t.sync.acc = [] ∧ t.sync.mode = .locked)) ∧
  (∀ (p : Prof) (r : SyncRun) (y : SyncState), y = { r.st.sync with
      estFreq := r.st.sync.wDph, estPhase := r.st.sync.wPhase.extractLsb' 16 16, estTiming := r.st.sync.wTiming
      acc := [], next := r.st.sync.next + ((p.lpl * p.sps : Nat) : Int), k := 0 } →
    (r.st.rb4 = none → frameClose p r = { r with
      frame := true, st := { r.st with rb4 := some r.st.sync.acc, sync := y } }) ∧
    (∀ f, r.st.rb4 = some f → frameClose p r = { r with
      dropped := true
      st := { r.st with cntDropped := satInc r.st.cntDropped, event := r.st.event ||| 0x200, sync := y } }))

/-- search_step(e) (47_synchronizer.md R321): with too few samples in the session, or a metric that does not exceed the
threshold, nothing changes; otherwise the best of the sps candidates, the first among equal ones, becomes the start of the
frame, and the estimates are initialised from it and committed. The correlation is the sum of R320. An untagged sample taken
in SEARCHING advances `POS`, enters `WIN` (R319) and takes this step. That a candidate may lock also after a loss or a gap with
fewer than 90 * sps further samples, against R326's remark, is the model's choice (log entry 21). -/
def Obligations.SearchAcquires : Prop :=
  (∀ (hdr : List Sample) (p : Prof) (e : Nat) (r : SyncRun),
    (e + 1 < r.st.rom.hdrLen * p.sps → searchStep hdr p e r = r) ∧
    (r.st.rom.hdrLen * p.sps ≤ e + 1 → 0 < p.sps →
      (normSq (correlate hdr r.st.sync.win p.sps (r.st.rom.hdrLen * p.sps - 1)) >>> p.tshift ≤ (p.thresh : Int) →
        searchStep hdr p e r = r) ∧
      ((p.thresh : Int) < normSq (correlate hdr r.st.sync.win p.sps (r.st.rom.hdrLen * p.sps - 1)) >>> p.tshift →
        ∃ d, d < p.sps ∧
          (∀ d', d' < p.sps → normSq (correlate hdr r.st.sync.win p.sps (r.st.rom.hdrLen * p.sps - 1 - d')) ≤
            normSq (correlate hdr r.st.sync.win p.sps (r.st.rom.hdrLen * p.sps - 1 - d))) ∧
          (∀ d', d' < d → normSq (correlate hdr r.st.sync.win p.sps (r.st.rom.hdrLen * p.sps - 1 - d')) <
            normSq (correlate hdr r.st.sync.win p.sps (r.st.rom.hdrLen * p.sps - 1 - d))) ∧
          searchStep hdr p e r = { r with
            locked := true
            st := { r.st with
              event := r.st.event ||| 0x80
              sync := { r.st.sync with
                mode := .locked, estFreq := 0, estTiming := 0
                estPhase := (romArg r.st.rom (correlate hdr r.st.sync.win p.sps (r.st.rom.hdrLen * p.sps - 1 - d))).extractLsb' 16 16
                wPhase := romArg r.st.rom (correlate hdr r.st.sync.win p.sps (r.st.rom.hdrLen * p.sps - 1 - d))
                wDph := 0, wTiming := 0, next := ((e + 1 - r.st.rom.hdrLen * p.sps + d : Nat) : Int), k := r.st.rom.hdrLen, miss := 0
                acc := [], cAcc := ⟨0, 0⟩, eAcc := ⟨0, 0⟩, lAcc := ⟨0, 0⟩, since := 0, sinceCarry := 0 } } }))) ∧
  (∀ (hdr win : List Sample) (sps off : Nat),
    let u := fun k => win.getD (off - k * sps) Sample.zero
    let h := fun k => hdr.getD k Sample.zero
    correlate hdr win sps off =
      ⟨((List.range hdr.length).map (fun k => (h k).re.toInt * (u k).re.toInt + (h k).im.toInt * (u k).im.toInt)).sum,
       ((List.range hdr.length).map (fun k => (h k).re.toInt * (u k).im.toInt - (h k).im.toInt * (u k).re.toInt)).sum⟩) ∧
  (∀ (s : State) (p : Prof) (x : Sample) (gl : BitVec 32) (rest : List TaggedSample), s.session = .active p →
    s.sync.mode = .searching → s.mfq = ⟨x, false, gl⟩ :: rest → ∃ r,
      r = searchStep (profHeader s.rom p) p s.sync.pos
        ⟨{ s with mfq := rest, sync := { s.sync with pos := s.sync.pos + 1, win := x :: s.sync.win.dropLast } },
          1, false, false, false, false⟩ ∧
      exec (.sync 1) s = .next { r.st with rsp := s.rsp ++ [⟨0x00, if r.locked then 0x40001 else 1⟩] })

/-- The end of a known block in LOCKED (47_synchronizer.md R324 to R326). Header: a metric below the threshold is a miss, and
the miss that reaches `PROF.miss` is a SynchronizationLoss that resets the synchronization state but `POS`; any other metric
clears the miss count and runs both loops, with the slip test, and `W_TIMING` is in -16384 .. 16384 again. Pilot block: the
carrier loop alone. After the loops the accumulators are empty and `SINCE` is 0. The carrier loop divides by the true distance,
`SINCE` with its wraps (log entry 9). The loops are the platform's, or else those of R339 and R340. -/
def Obligations.HeaderCheckPolicy : Prop :=
  (∀ (p : Prof) (r : SyncRun) (n : Nat), blockEnd p (.header n) r = headerEnd p r ∧ blockEnd p (.data n) r = (r, false)) ∧
  (∀ (p : Prof) (r : SyncRun),
    (normSq r.st.sync.cAcc >>> p.tshift < (p.thresh : Int) → p.miss ≤ r.st.sync.miss.toNat + 1 →
      headerEnd p r = ({ r with
        lost := true
        st := { r.st with
          lasterr := 0x0103, event := r.st.event ||| 4, cntSyncloss := satInc r.st.cntSyncloss
          sync := SyncState.cleared ((r.st.rom.hdrLen + 1) * p.sps) r.st.sync.pos } }, true)) ∧
    (normSq r.st.sync.cAcc >>> p.tshift < (p.thresh : Int) → r.st.sync.miss.toNat + 1 < p.miss →
      headerEnd p r = ({ r with st := { r.st with sync := { r.st.sync with
        miss := r.st.sync.miss + 1, cAcc := ⟨0, 0⟩, eAcc := ⟨0, 0⟩, lAcc := ⟨0, 0⟩ } } }, false)) ∧
    ((p.thresh : Int) ≤ normSq r.st.sync.cAcc >>> p.tshift → ∃ y : SyncState,
      headerEnd p r = ({ r with st := { r.st with sync := y } }, false) ∧
      y = { r.st.sync with
        miss := 0, since := 0, sinceCarry := 0, cAcc := ⟨0, 0⟩, eAcc := ⟨0, 0⟩, lAcc := ⟨0, 0⟩
        wTiming := y.wTiming, next := y.next
        wPhase := (romCloop r.st.rom p.cloop r.st.sync.cAcc (sinceCount r.st.sync) r.st.sync.wPhase r.st.sync.wDph).1
        wDph := (romCloop r.st.rom p.cloop r.st.sync.cAcc (sinceCount r.st.sync) r.st.sync.wPhase r.st.sync.wDph).2 } ∧
      ∀ t, t = romTloop r.st.rom p.tloop r.st.sync.cAcc r.st.sync.eAcc r.st.sync.lAcc r.st.sync.wTiming.toInt →
        -49152 ≤ t → t ≤ 49152 →
        -16384 ≤ y.wTiming.toInt ∧ y.wTiming.toInt ≤ 16384 ∧
          ((16384 < t ∧ y.wTiming.toInt = t - 32768 ∧ y.next = r.st.sync.next + 1) ∨
           (t < -16384 ∧ y.wTiming.toInt = t + 32768 ∧ y.next = r.st.sync.next - 1) ∨
           (-16384 ≤ t ∧ t ≤ 16384 ∧ y.wTiming.toInt = t ∧ y.next = r.st.sync.next))) ∧
    (∀ b n, -16384 ≤ r.st.sync.wTiming.toInt → r.st.sync.wTiming.toInt ≤ 16384 →
      blockEnd p (.pilot b n) r = ({ r with st := { r.st with sync := { r.st.sync with
        since := 0, sinceCarry := 0, cAcc := ⟨0, 0⟩, eAcc := ⟨0, 0⟩, lAcc := ⟨0, 0⟩
        wPhase := (romCloop r.st.rom p.cloop r.st.sync.cAcc (sinceCount r.st.sync) r.st.sync.wPhase r.st.sync.wDph).1
        wDph := (romCloop r.st.rom p.cloop r.st.sync.cAcc (sinceCount r.st.sync) r.st.sync.wPhase r.st.sync.wDph).2 } } }, false))) ∧
  (∀ (rom : Rom) (g : BitVec 16) (c : Cx) (n : Nat) (ph d : BitVec 32), rom.cloop.lookup (g, c, n, ph, d) = none →
    romCloop rom g c n ph d =
      (ph + BitVec.ofInt 32 ((romArg rom c).toInt >>> (g.extractLsb' 8 8).toNat),
       d + BitVec.ofInt 32 ((romArg rom c).toInt >>> ((g.extractLsb' 0 8).toNat + bitlen n)))) ∧
  (∀ (rom : Rom) (g : BitVec 16) (c e l : Cx) (w : Int), rom.tloop.lookup (g, c, e, l, w) = none →
    (normSq c >>> (g.extractLsb' 8 8).toNat < normSq l - normSq e →
      romTloop rom g c e l w = w + ((2 ^ (g.toNat % 16) : Nat) : Int)) ∧
    (normSq c >>> (g.extractLsb' 8 8).toNat < normSq e - normSq l →
      romTloop rom g c e l w = w - ((2 ^ (g.toNat % 16) : Nat) : Int)) ∧
    (normSq l - normSq e ≤ normSq c >>> (g.extractLsb' 8 8).toNat → normSq e - normSq l ≤ normSq c >>> (g.extractLsb' 8 8).toNat →
      romTloop rom g c e l w = w) ∧
    (-16384 ≤ w → w ≤ 16384 → -49152 ≤ romTloop rom g c e l w ∧ romTloop rom g c e l w ≤ 49152))

/-- A sample with a gap tag restarts the search (47_synchronizer.md R332): a frame in progress is dropped and counted, no
SynchronizationLoss is raised, and the tagged sample is the first of the new search. SYNC does so for a tagged sample at the
head of `MFQ`. -/
def Obligations.GapRestartsSearch : Prop :=
  (∀ (p : Prof) (x : TaggedSample) (rest : List TaggedSample) (r : SyncRun), 2 ≤ p.sps → x.gap = true →
    consumeSample (profHeader r.st.rom p) p x rest r = { r with
      consumed := r.consumed + 1
      dropped := r.dropped || r.st.sync.mode == .locked
      st := { r.st with
        mfq := rest
        cntDropped := if r.st.sync.mode = .locked then satInc r.st.cntDropped else r.st.cntDropped
        event := if r.st.sync.mode = .locked then r.st.event ||| 0x200 else r.st.event
        sync := { SyncState.cleared 0 (r.st.sync.pos + 1) with
          win := x.sample :: List.replicate ((r.st.rom.hdrLen + 1) * p.sps - 1) Sample.zero } } }) ∧
  (∀ (s : State) (p : Prof) (x : Sample) (gl : BitVec 32) (rest : List TaggedSample), s.session = .active p → 2 ≤ p.sps →
    s.mfq = ⟨x, true, gl⟩ :: rest → exec (.sync 1) s = .next { s with
      mfq := rest
      cntDropped := if s.sync.mode = .locked then satInc s.cntDropped else s.cntDropped
      event := if s.sync.mode = .locked then s.event ||| 0x200 else s.event
      sync := { SyncState.cleared 0 (s.sync.pos + 1) with
        win := x :: List.replicate ((s.rom.hdrLen + 1) * p.sps - 1) Sample.zero }
      rsp := s.rsp ++ [⟨0x00, if s.sync.mode = .locked then 0x80001 else 1⟩] })

/-- Exact cases of the default numeric functions: `P_ARG` on the axis and the diagonal, `P_ROT` by quarter turns, `P_INTERP` at
the ends of its range and in between, `rnd` as a floor division, symmetric saturation (47_synchronizer.md R337, R338, R341; 00_scope.md R11);
and each parameter that is a function is the default except where the platform supplies a value (00_scope.md R9). -/
def Obligations.NumericFunctionsExact : Prop :=
  (∀ x : Int, 0 < x → pArg ⟨x, 0⟩ = 0 ∧ pArg ⟨-x, 0⟩ = 0x80000000 ∧ pArg ⟨x, x⟩ = 0x20000000) ∧
  (∀ z : Cx, pRot z 0 = satSample z.re z.im ∧ pRot z 0x40000000 = satSample (-z.im) z.re ∧
    pRot z 0x80000000 = satSample (-z.re) (-z.im) ∧ pRot z 0xC0000000 = satSample z.im (-z.re)) ∧
  (∀ prev cur nxt : Sample, pInterp prev cur nxt 0 = satSample cur.re.toInt cur.im.toInt ∧
    pInterp prev cur nxt 32768 = satSample nxt.re.toInt nxt.im.toInt ∧
    pInterp prev cur nxt (-32768) = satSample prev.re.toInt prev.im.toInt) ∧
  (∀ (prev cur nxt : Sample) (tau : Int) (im : Bool), component im (pInterp prev cur nxt tau) =
    max (-32767) (min 32767 (component im cur +
      (if 0 ≤ tau then ((component im nxt - component im cur) * tau + 16384) / 32768
       else ((component im prev - component im cur) * -tau + 16384) / 32768)))) ∧
  (∀ (x : Int) (n : Nat), rnd x (n + 1) = (x + 2 ^ n) / 2 ^ (n + 1)) ∧
  (∀ a b : Int, (satSample a b).re.toInt = max (-32767) (min 32767 a) ∧
    (satSample a b).im.toInt = max (-32767) (min 32767 b)) ∧
  (∀ (rom : Rom) (z : Cx), (rom.arg.lookup z = none → romArg rom z = pArg z) ∧
    ∀ v, rom.arg.lookup z = some v → romArg rom z = v) ∧
  (∀ (rom : Rom) (z : Cx) (a : BitVec 32), (rom.rot.lookup (z, a) = none → romRot rom z a = pRot z a) ∧
    ∀ v, rom.rot.lookup (z, a) = some v → romRot rom z a = v) ∧
  (∀ (rom : Rom) (a b c : Sample) (u : Int),
    (rom.interp.lookup (a, b, c, u) = none → romInterp rom a b c u = pInterp a b c u) ∧
    ∀ v, rom.interp.lookup (a, b, c, u) = some v → romInterp rom a b c u = v) ∧
  (∀ (rom : Rom) (g : BitVec 16) (c : Cx) (n : Nat) (ph d : BitVec 32) (v : BitVec 32 × BitVec 32),
    rom.cloop.lookup (g, c, n, ph, d) = some v → romCloop rom g c n ph d = v) ∧
  (∀ (rom : Rom) (g : BitVec 16) (c e l : Cx) (w v : Int),
    rom.tloop.lookup (g, c, e, l, w) = some v → romTloop rom g c e l w = v)

/-! ### The two chains -/

/-- A command of the transmit chain changes nothing of the receive chain, and what it does and answers depends only on the
transmit chain's part of the state (20_memory.md R80). -/
def Obligations.TransmitIsolated : Prop :=
  ∀ (i : Instr) (s s' : State), isTransmit i = true → txPart s = txPart s' →
    ∃ t t' r, exec i s = .next t ∧ exec i s' = .next t' ∧ t.rsp = s.rsp ++ [r] ∧ t'.rsp = s'.rsp ++ [r] ∧
      txPart t = txPart t' ∧ rxPart t = rxPart s

/-- A command of the receive chain changes nothing of the transmit chain, and what it does and answers depends only on the
receive chain's part of the state (20_memory.md R80). -/
def Obligations.ReceiveIsolated : Prop :=
  ∀ (i : Instr) (s s' : State), isReceive i = true → rxPart s = rxPart s' →
    ∃ t t' r, exec i s = .next t ∧ exec i s' = .next t' ∧ t.rsp = s.rsp ++ [r] ∧ t'.rsp = s'.rsp ++ [r] ∧
      rxPart t = rxPart t' ∧ txPart t = txPart s

/-! ### Invariants that every step keeps -/

/-- Every step keeps: the session's profile is one START accepts, with `ST_CHUNK` and `ST_PLLEN` showing it (10_state.md R36,
R41), modulo 2^32 (the model's choice for larger sizes, log entry 24). -/
def Obligations.StepKeepsSession : Prop := ∀ s : State, sessionSound s = true → ∃ t, step s = .next t ∧ sessionSound t = true

/-- Every step keeps: while IDLE nothing of a session is left; reserved bits read 0; `GAP` agrees with `GAPLEN`
(40_session_control.md R135, 10_state.md R38, R39, R47). That the delay lines and `WIN` have no element while IDLE is the
model's choice (log entry 10). -/
def Obligations.StepKeepsIdleAndFlags : Prop :=
  ∀ s : State, idleClean s = true → flagsSound s = true → ∃ t, step s = .next t ∧ idleClean t = true ∧ flagsSound t = true

/-- Every step keeps the lengths of the transmit chain's frames and of `TXDL` (10_state.md R21, R48). -/
def Obligations.StepKeepsTransmitFrames : Prop :=
  ∀ s : State, sessionSound s = true → txFramesFit s = true → ∃ t, step s = .next t ∧ txFramesFit t = true

/-- Every step keeps the lengths of the receive chain's frames, of `RXDL` and of `WIN`, and that `ACC` holds exactly the data
symbols of indices below `K` (10_state.md R21, R48, 47_synchronizer.md R342 (2)). -/
def Obligations.StepKeepsReceiveFrames : Prop :=
  ∀ s : State, sessionSound s = true → rxFramesFit s = true → ∃ t, step s = .next t ∧ rxFramesFit t = true

/-- Every step keeps the queues within their capacities (10_state.md R46). -/
def Obligations.StepKeepsQueues : Prop :=
  ∀ s : State, sessionSound s = true → txFramesFit s = true → queuesFit s = true → ∃ t, step s = .next t ∧ queuesFit t = true

/-- Every step keeps the invariants (1), (2), (3), (4) and (7) of 47_synchronizer.md R342, of (2) that `K` < L_PL and that `ACC`
has as many symbols as there are data symbols of indices below `K` (which symbols they are is said by LockedTakesSymbols), with
any loop function of the platform that one slip brings back. -/
def Obligations.StepKeepsSynchronizer : Prop :=
  ∀ s : State, loopsSound s.rom = true → sessionSound s = true → syncSound s = true → ∃ t, step s = .next t ∧ syncSound t = true

/-- The state after reset meets every invariant, with any `ROM`, and so does the state that hardware reset leaves from any
state (70_reset_and_hazards.md R391, 10_state.md R55). That the delay lines and `WIN` have no element then is the model's
choice (log entry 10). -/
def Obligations.ResetIsSound : Prop :=
  sound State.reset = true ∧ (∀ rom : Rom, sound { State.reset with rom := rom } = true) ∧
  (∀ s : State, ∃ t, agentStep .hardwareReset s = .next t ∧ sound t = true)

/-! ### The symbol instant -/

/-- What SYNC does with one sample in LOCKED (47_synchronizer.md R319, R323, R324, R328). Away from the symbol instant
`NEXT` + `K` * sps + 1 only `POS`, `WIN` and `MFQ` change. At the instant the symbol is interpolated at `W_TIMING` around the
sample before the new one and rotated by -`W_PHASE`; a data symbol is appended to `ACC`, a header or pilot symbol accumulated
into `C_ACC` and, half a sample early and late and not rotated, into `E_ACC` and `L_ACC`; `SINCE` and `K` advance by one and
`W_PHASE` by `W_DPH`. That `SINCE` at 65535 wraps into a carry, so that its count goes on, is the model's reading of
10_state.md R51 with R23 (log entry 9). The last symbol of a known block runs the block's end; the last symbol of the frame closes it, into an
EMPTY `RB4` or dropped. -/
def Obligations.LockedTakesSymbols : Prop :=
  ∀ (s : State) (p : Prof) (x : Sample) (gl : BitVec 32) (rest : List TaggedSample), s.session = .active p →
    s.sync.mode = .locked → s.mfq = ⟨x, false, gl⟩ :: rest →
    let y := s.sync
    let w := x :: y.win.dropLast
    let interp := fun tau => romInterp s.rom (w.getD 2 Sample.zero) (w.getD 1 Sample.zero) x tau
    let zd := romRot s.rom (interp y.wTiming.toInt).toCx (-y.wPhase)
    let kd := symbolKind s.rom p y.k
    let moved : SyncState := { y with pos := y.pos + 1, win := w }
    let taken : SyncState := { moved with
      since := y.since + 1, sinceCarry := if y.since = 0xFFFF then y.sinceCarry + 1 else y.sinceCarry
      wPhase := y.wPhase + y.wDph, k := y.k + 1 }
    let known : Sample → SyncState := fun ref => { taken with
      cAcc := cxAdd y.cAcc (conjMul ref.toCx zd.toCx)
      eAcc := cxAdd y.eAcc (conjMul ref.toCx (interp (y.wTiming.toInt - 16384)).toCx)
      lAcc := cxAdd y.lAcc (conjMul ref.toCx (interp (y.wTiming.toInt + 16384)).toCx) }
    let closed : SyncState := { taken with
      estFreq := y.wDph, estPhase := (y.wPhase + y.wDph).extractLsb' 16 16, estTiming := y.wTiming
      acc := [], next := y.next + ((p.lpl * p.sps : Nat) : Int), k := 0 }
    let instant := (y.pos : Int) = y.next + ((y.k * p.sps + 1 : Nat) : Int)
    (¬ instant → exec (.sync 1) s = .next { s with mfq := rest, sync := moved, rsp := s.rsp ++ [⟨0x00, 1⟩] }) ∧
    (instant → isData kd = true →
      (y.k + 1 ≠ p.lpl → exec (.sync 1) s = .next { s with
        mfq := rest, sync := { taken with acc := y.acc ++ [zd] }, rsp := s.rsp ++ [⟨0x00, 1⟩] }) ∧
      (y.k + 1 = p.lpl → s.rb4 = none → exec (.sync 1) s = .next { s with
        mfq := rest, rb4 := some (y.acc ++ [zd]), sync := closed, rsp := s.rsp ++ [⟨0x00, 0x10001⟩] }) ∧
      (∀ f, y.k + 1 = p.lpl → s.rb4 = some f → exec (.sync 1) s = .next { s with
        mfq := rest, sync := closed, cntDropped := satInc s.cntDropped, event := s.event ||| 0x200
        rsp := s.rsp ++ [⟨0x00, 0x80001⟩] })) ∧
    (∀ ref, instant →
      ((∃ n, kd = .header n ∧ ref = (profHeader s.rom p).getD n Sample.zero) ∨ (∃ b n, kd = .pilot b n ∧ ref = s.rom.pilotSym)) →
      (y.k + 1 ≠ p.lpl → isData (symbolKind s.rom p (y.k + 1)) = false → exec (.sync 1) s = .next { s with
        mfq := rest, sync := known ref, rsp := s.rsp ++ [⟨0x00, 1⟩] }) ∧
      (y.k + 1 = p.lpl ∨ isData (symbolKind s.rom p (y.k + 1)) = true → ∃ b r,
        b = blockEnd p kd ⟨{ s with mfq := rest, sync := known ref }, 1, false, false, false, false⟩ ∧
        r = (if y.k + 1 = p.lpl ∧ b.2 = false then frameClose p b.1 else b.1) ∧
        exec (.sync 1) s = .next { r.st with rsp := s.rsp ++ [⟨0x00, syncValue r⟩] }))
end

