-- ==== Sys2Proof/Laws/State.lean ====
section
/-! SUPPORT. The state after each shared operation, field by field: one lemma per field per operation, each true by `rfl`, so
that no proof unfolds a record update. -/

namespace Sys2Proof.Machine

@[simp] theorem respond_rom (status : BitVec 8) (value : BitVec 32) (s : State) : (respond status value s).rom = s.rom := rfl
@[simp] theorem respond_inputs (status : BitVec 8) (value : BitVec 32) (s : State) : (respond status value s).inputs = s.inputs := rfl
@[simp] theorem respond_bbin (status : BitVec 8) (value : BitVec 32) (s : State) : (respond status value s).bbin = s.bbin := rfl
@[simp] theorem respond_bbout (status : BitVec 8) (value : BitVec 32) (s : State) : (respond status value s).bbout = s.bbout := rfl
@[simp] theorem respond_bboutReady (status : BitVec 8) (value : BitVec 32) (s : State) : (respond status value s).bboutReady = s.bboutReady := rfl
@[simp] theorem respond_rsp (status : BitVec 8) (value : BitVec 32) (s : State) : (respond status value s).rsp = s.rsp ++ [⟨status, value⟩] := rfl
@[simp] theorem respond_radioTx (status : BitVec 8) (value : BitVec 32) (s : State) : (respond status value s).radioTx = s.radioTx := rfl
@[simp] theorem respond_session (status : BitVec 8) (value : BitVec 32) (s : State) : (respond status value s).session = s.session := rfl
@[simp] theorem respond_cfg (status : BitVec 8) (value : BitVec 32) (s : State) : (respond status value s).cfg = s.cfg := rfl
@[simp] theorem respond_tb0 (status : BitVec 8) (value : BitVec 32) (s : State) : (respond status value s).tb0 = s.tb0 := rfl
@[simp] theorem respond_tb1 (status : BitVec 8) (value : BitVec 32) (s : State) : (respond status value s).tb1 = s.tb1 := rfl
@[simp] theorem respond_tb2 (status : BitVec 8) (value : BitVec 32) (s : State) : (respond status value s).tb2 = s.tb2 := rfl
@[simp] theorem respond_tb3 (status : BitVec 8) (value : BitVec 32) (s : State) : (respond status value s).tb3 = s.tb3 := rfl
@[simp] theorem respond_tb4 (status : BitVec 8) (value : BitVec 32) (s : State) : (respond status value s).tb4 = s.tb4 := rfl
@[simp] theorem respond_tb5 (status : BitVec 8) (value : BitVec 32) (s : State) : (respond status value s).tb5 = s.tb5 := rfl
@[simp] theorem respond_rb4 (status : BitVec 8) (value : BitVec 32) (s : State) : (respond status value s).rb4 = s.rb4 := rfl
@[simp] theorem respond_rb3 (status : BitVec 8) (value : BitVec 32) (s : State) : (respond status value s).rb3 = s.rb3 := rfl
@[simp] theorem respond_rb2 (status : BitVec 8) (value : BitVec 32) (s : State) : (respond status value s).rb2 = s.rb2 := rfl
@[simp] theorem respond_rb1 (status : BitVec 8) (value : BitVec 32) (s : State) : (respond status value s).rb1 = s.rb1 := rfl
@[simp] theorem respond_rb0 (status : BitVec 8) (value : BitVec 32) (s : State) : (respond status value s).rb0 = s.rb0 := rfl
@[simp] theorem respond_event (status : BitVec 8) (value : BitVec 32) (s : State) : (respond status value s).event = s.event := rfl
@[simp] theorem respond_lasterr (status : BitVec 8) (value : BitVec 32) (s : State) : (respond status value s).lasterr = s.lasterr := rfl
@[simp] theorem respond_cntUncorr (status : BitVec 8) (value : BitVec 32) (s : State) : (respond status value s).cntUncorr = s.cntUncorr := rfl
@[simp] theorem respond_cntSyncloss (status : BitVec 8) (value : BitVec 32) (s : State) : (respond status value s).cntSyncloss = s.cntSyncloss := rfl
@[simp] theorem respond_cntOverrun (status : BitVec 8) (value : BitVec 32) (s : State) : (respond status value s).cntOverrun = s.cntOverrun := rfl
@[simp] theorem respond_cntUnderrun (status : BitVec 8) (value : BitVec 32) (s : State) : (respond status value s).cntUnderrun = s.cntUnderrun := rfl
@[simp] theorem respond_cntTxerr (status : BitVec 8) (value : BitVec 32) (s : State) : (respond status value s).cntTxerr = s.cntTxerr := rfl
@[simp] theorem respond_cntLdpcfail (status : BitVec 8) (value : BitVec 32) (s : State) : (respond status value s).cntLdpcfail = s.cntLdpcfail := rfl
@[simp] theorem respond_cntDropped (status : BitVec 8) (value : BitVec 32) (s : State) : (respond status value s).cntDropped = s.cntDropped := rfl
@[simp] theorem respond_bchErrcnt (status : BitVec 8) (value : BitVec 32) (s : State) : (respond status value s).bchErrcnt = s.bchErrcnt := rfl
@[simp] theorem respond_ldpcIter (status : BitVec 8) (value : BitVec 32) (s : State) : (respond status value s).ldpcIter = s.ldpcIter := rfl
@[simp] theorem respond_stChunk (status : BitVec 8) (value : BitVec 32) (s : State) : (respond status value s).stChunk = s.stChunk := rfl
@[simp] theorem respond_stPllen (status : BitVec 8) (value : BitVec 32) (s : State) : (respond status value s).stPllen = s.stPllen := rfl
@[simp] theorem respond_txq (status : BitVec 8) (value : BitVec 32) (s : State) : (respond status value s).txq = s.txq := rfl
@[simp] theorem respond_rxq (status : BitVec 8) (value : BitVec 32) (s : State) : (respond status value s).rxq = s.rxq := rfl
@[simp] theorem respond_mfq (status : BitVec 8) (value : BitVec 32) (s : State) : (respond status value s).mfq = s.mfq := rfl
@[simp] theorem respond_gap (status : BitVec 8) (value : BitVec 32) (s : State) : (respond status value s).gap = s.gap := rfl
@[simp] theorem respond_gapLen (status : BitVec 8) (value : BitVec 32) (s : State) : (respond status value s).gapLen = s.gapLen := rfl
@[simp] theorem respond_txdl (status : BitVec 8) (value : BitVec 32) (s : State) : (respond status value s).txdl = s.txdl := rfl
@[simp] theorem respond_rxdl (status : BitVec 8) (value : BitVec 32) (s : State) : (respond status value s).rxdl = s.rxdl := rfl
@[simp] theorem respond_sync (status : BitVec 8) (value : BitVec 32) (s : State) : (respond status value s).sync = s.sync := rfl

@[simp] theorem raiseExc_rom (e : Exc) (s : State) : (raiseExc e s).rom = s.rom := rfl
@[simp] theorem raiseExc_inputs (e : Exc) (s : State) : (raiseExc e s).inputs = s.inputs := rfl
@[simp] theorem raiseExc_bbin (e : Exc) (s : State) : (raiseExc e s).bbin = s.bbin := rfl
@[simp] theorem raiseExc_bbout (e : Exc) (s : State) : (raiseExc e s).bbout = s.bbout := rfl
@[simp] theorem raiseExc_bboutReady (e : Exc) (s : State) : (raiseExc e s).bboutReady = s.bboutReady := rfl
@[simp] theorem raiseExc_rsp (e : Exc) (s : State) : (raiseExc e s).rsp = s.rsp := rfl
@[simp] theorem raiseExc_radioTx (e : Exc) (s : State) : (raiseExc e s).radioTx = s.radioTx := rfl
@[simp] theorem raiseExc_session (e : Exc) (s : State) : (raiseExc e s).session = s.session := rfl
@[simp] theorem raiseExc_cfg (e : Exc) (s : State) : (raiseExc e s).cfg = s.cfg := rfl
@[simp] theorem raiseExc_tb0 (e : Exc) (s : State) : (raiseExc e s).tb0 = s.tb0 := rfl
@[simp] theorem raiseExc_tb1 (e : Exc) (s : State) : (raiseExc e s).tb1 = s.tb1 := rfl
@[simp] theorem raiseExc_tb2 (e : Exc) (s : State) : (raiseExc e s).tb2 = s.tb2 := rfl
@[simp] theorem raiseExc_tb3 (e : Exc) (s : State) : (raiseExc e s).tb3 = s.tb3 := rfl
@[simp] theorem raiseExc_tb4 (e : Exc) (s : State) : (raiseExc e s).tb4 = s.tb4 := rfl
@[simp] theorem raiseExc_tb5 (e : Exc) (s : State) : (raiseExc e s).tb5 = s.tb5 := rfl
@[simp] theorem raiseExc_rb4 (e : Exc) (s : State) : (raiseExc e s).rb4 = s.rb4 := rfl
@[simp] theorem raiseExc_rb3 (e : Exc) (s : State) : (raiseExc e s).rb3 = s.rb3 := rfl
@[simp] theorem raiseExc_rb2 (e : Exc) (s : State) : (raiseExc e s).rb2 = s.rb2 := rfl
@[simp] theorem raiseExc_rb1 (e : Exc) (s : State) : (raiseExc e s).rb1 = s.rb1 := rfl
@[simp] theorem raiseExc_rb0 (e : Exc) (s : State) : (raiseExc e s).rb0 = s.rb0 := rfl
@[simp] theorem raiseExc_event (e : Exc) (s : State) : (raiseExc e s).event = withEvent (excEvent e) s.event := rfl
@[simp] theorem raiseExc_lasterr (e : Exc) (s : State) : (raiseExc e s).lasterr = excRecord e := rfl
@[simp] theorem raiseExc_cntUncorr (e : Exc) (s : State) : (raiseExc e s).cntUncorr = bumpIf (e == .uncorrectableFrame) s.cntUncorr := rfl
@[simp] theorem raiseExc_cntSyncloss (e : Exc) (s : State) : (raiseExc e s).cntSyncloss = bumpIf (e == .synchronizationLoss) s.cntSyncloss := rfl
@[simp] theorem raiseExc_cntOverrun (e : Exc) (s : State) : (raiseExc e s).cntOverrun = bumpIf (e == .streamOverrun) s.cntOverrun := rfl
@[simp] theorem raiseExc_cntUnderrun (e : Exc) (s : State) : (raiseExc e s).cntUnderrun = bumpIf (e == .streamUnderrun) s.cntUnderrun := rfl
@[simp] theorem raiseExc_cntTxerr (e : Exc) (s : State) : (raiseExc e s).cntTxerr = bumpIf (isTxChunk e) s.cntTxerr := rfl
@[simp] theorem raiseExc_cntLdpcfail (e : Exc) (s : State) : (raiseExc e s).cntLdpcfail = s.cntLdpcfail := rfl
@[simp] theorem raiseExc_cntDropped (e : Exc) (s : State) : (raiseExc e s).cntDropped = s.cntDropped := rfl
@[simp] theorem raiseExc_bchErrcnt (e : Exc) (s : State) : (raiseExc e s).bchErrcnt = s.bchErrcnt := rfl
@[simp] theorem raiseExc_ldpcIter (e : Exc) (s : State) : (raiseExc e s).ldpcIter = s.ldpcIter := rfl
@[simp] theorem raiseExc_stChunk (e : Exc) (s : State) : (raiseExc e s).stChunk = s.stChunk := rfl
@[simp] theorem raiseExc_stPllen (e : Exc) (s : State) : (raiseExc e s).stPllen = s.stPllen := rfl
@[simp] theorem raiseExc_txq (e : Exc) (s : State) : (raiseExc e s).txq = s.txq := rfl
@[simp] theorem raiseExc_rxq (e : Exc) (s : State) : (raiseExc e s).rxq = s.rxq := rfl
@[simp] theorem raiseExc_mfq (e : Exc) (s : State) : (raiseExc e s).mfq = s.mfq := rfl
@[simp] theorem raiseExc_gap (e : Exc) (s : State) : (raiseExc e s).gap = s.gap := rfl
@[simp] theorem raiseExc_gapLen (e : Exc) (s : State) : (raiseExc e s).gapLen = s.gapLen := rfl
@[simp] theorem raiseExc_txdl (e : Exc) (s : State) : (raiseExc e s).txdl = s.txdl := rfl
@[simp] theorem raiseExc_rxdl (e : Exc) (s : State) : (raiseExc e s).rxdl = s.rxdl := rfl
@[simp] theorem raiseExc_sync (e : Exc) (s : State) : (raiseExc e s).sync = s.sync := rfl

@[simp] theorem acknowledge_rom (mask : BitVec 16) (s : State) : (acknowledge mask s).rom = s.rom := rfl
@[simp] theorem acknowledge_inputs (mask : BitVec 16) (s : State) : (acknowledge mask s).inputs = s.inputs := rfl
@[simp] theorem acknowledge_bbin (mask : BitVec 16) (s : State) : (acknowledge mask s).bbin = s.bbin := rfl
@[simp] theorem acknowledge_bbout (mask : BitVec 16) (s : State) : (acknowledge mask s).bbout = s.bbout := rfl
@[simp] theorem acknowledge_bboutReady (mask : BitVec 16) (s : State) : (acknowledge mask s).bboutReady = s.bboutReady := rfl
@[simp] theorem acknowledge_rsp (mask : BitVec 16) (s : State) : (acknowledge mask s).rsp = s.rsp := rfl
@[simp] theorem acknowledge_radioTx (mask : BitVec 16) (s : State) : (acknowledge mask s).radioTx = s.radioTx := rfl
@[simp] theorem acknowledge_session (mask : BitVec 16) (s : State) : (acknowledge mask s).session = s.session := rfl
@[simp] theorem acknowledge_cfg (mask : BitVec 16) (s : State) : (acknowledge mask s).cfg = s.cfg := rfl
@[simp] theorem acknowledge_tb0 (mask : BitVec 16) (s : State) : (acknowledge mask s).tb0 = s.tb0 := rfl
@[simp] theorem acknowledge_tb1 (mask : BitVec 16) (s : State) : (acknowledge mask s).tb1 = s.tb1 := rfl
@[simp] theorem acknowledge_tb2 (mask : BitVec 16) (s : State) : (acknowledge mask s).tb2 = s.tb2 := rfl
@[simp] theorem acknowledge_tb3 (mask : BitVec 16) (s : State) : (acknowledge mask s).tb3 = s.tb3 := rfl
@[simp] theorem acknowledge_tb4 (mask : BitVec 16) (s : State) : (acknowledge mask s).tb4 = s.tb4 := rfl
@[simp] theorem acknowledge_tb5 (mask : BitVec 16) (s : State) : (acknowledge mask s).tb5 = s.tb5 := rfl
@[simp] theorem acknowledge_rb4 (mask : BitVec 16) (s : State) : (acknowledge mask s).rb4 = s.rb4 := rfl
@[simp] theorem acknowledge_rb3 (mask : BitVec 16) (s : State) : (acknowledge mask s).rb3 = s.rb3 := rfl
@[simp] theorem acknowledge_rb2 (mask : BitVec 16) (s : State) : (acknowledge mask s).rb2 = s.rb2 := rfl
@[simp] theorem acknowledge_rb1 (mask : BitVec 16) (s : State) : (acknowledge mask s).rb1 = s.rb1 := rfl
@[simp] theorem acknowledge_rb0 (mask : BitVec 16) (s : State) : (acknowledge mask s).rb0 = s.rb0 := rfl
@[simp] theorem acknowledge_event (mask : BitVec 16) (s : State) : (acknowledge mask s).event = s.event &&& ~~~(mask.setWidth 32) := rfl
@[simp] theorem acknowledge_lasterr (mask : BitVec 16) (s : State) : (acknowledge mask s).lasterr = s.lasterr := rfl
@[simp] theorem acknowledge_cntUncorr (mask : BitVec 16) (s : State) : (acknowledge mask s).cntUncorr = s.cntUncorr := rfl
@[simp] theorem acknowledge_cntSyncloss (mask : BitVec 16) (s : State) : (acknowledge mask s).cntSyncloss = s.cntSyncloss := rfl
@[simp] theorem acknowledge_cntOverrun (mask : BitVec 16) (s : State) : (acknowledge mask s).cntOverrun = s.cntOverrun := rfl
@[simp] theorem acknowledge_cntUnderrun (mask : BitVec 16) (s : State) : (acknowledge mask s).cntUnderrun = s.cntUnderrun := rfl
@[simp] theorem acknowledge_cntTxerr (mask : BitVec 16) (s : State) : (acknowledge mask s).cntTxerr = s.cntTxerr := rfl
@[simp] theorem acknowledge_cntLdpcfail (mask : BitVec 16) (s : State) : (acknowledge mask s).cntLdpcfail = s.cntLdpcfail := rfl
@[simp] theorem acknowledge_cntDropped (mask : BitVec 16) (s : State) : (acknowledge mask s).cntDropped = s.cntDropped := rfl
@[simp] theorem acknowledge_bchErrcnt (mask : BitVec 16) (s : State) : (acknowledge mask s).bchErrcnt = s.bchErrcnt := rfl
@[simp] theorem acknowledge_ldpcIter (mask : BitVec 16) (s : State) : (acknowledge mask s).ldpcIter = s.ldpcIter := rfl
@[simp] theorem acknowledge_stChunk (mask : BitVec 16) (s : State) : (acknowledge mask s).stChunk = s.stChunk := rfl
@[simp] theorem acknowledge_stPllen (mask : BitVec 16) (s : State) : (acknowledge mask s).stPllen = s.stPllen := rfl
@[simp] theorem acknowledge_txq (mask : BitVec 16) (s : State) : (acknowledge mask s).txq = s.txq := rfl
@[simp] theorem acknowledge_rxq (mask : BitVec 16) (s : State) : (acknowledge mask s).rxq = s.rxq := rfl
@[simp] theorem acknowledge_mfq (mask : BitVec 16) (s : State) : (acknowledge mask s).mfq = s.mfq := rfl
@[simp] theorem acknowledge_gap (mask : BitVec 16) (s : State) : (acknowledge mask s).gap = s.gap := rfl
@[simp] theorem acknowledge_gapLen (mask : BitVec 16) (s : State) : (acknowledge mask s).gapLen = s.gapLen := rfl
@[simp] theorem acknowledge_txdl (mask : BitVec 16) (s : State) : (acknowledge mask s).txdl = s.txdl := rfl
@[simp] theorem acknowledge_rxdl (mask : BitVec 16) (s : State) : (acknowledge mask s).rxdl = s.rxdl := rfl
@[simp] theorem acknowledge_sync (mask : BitVec 16) (s : State) : (acknowledge mask s).sync = s.sync := rfl

@[simp] theorem cfgWrite_rom (i : Nat) (v : BitVec 16) (s : State) : (cfgWrite i v s).rom = s.rom := rfl
@[simp] theorem cfgWrite_inputs (i : Nat) (v : BitVec 16) (s : State) : (cfgWrite i v s).inputs = s.inputs := rfl
@[simp] theorem cfgWrite_bbin (i : Nat) (v : BitVec 16) (s : State) : (cfgWrite i v s).bbin = s.bbin := rfl
@[simp] theorem cfgWrite_bbout (i : Nat) (v : BitVec 16) (s : State) : (cfgWrite i v s).bbout = s.bbout := rfl
@[simp] theorem cfgWrite_bboutReady (i : Nat) (v : BitVec 16) (s : State) : (cfgWrite i v s).bboutReady = s.bboutReady := rfl
@[simp] theorem cfgWrite_rsp (i : Nat) (v : BitVec 16) (s : State) : (cfgWrite i v s).rsp = s.rsp := rfl
@[simp] theorem cfgWrite_radioTx (i : Nat) (v : BitVec 16) (s : State) : (cfgWrite i v s).radioTx = s.radioTx := rfl
@[simp] theorem cfgWrite_session (i : Nat) (v : BitVec 16) (s : State) : (cfgWrite i v s).session = s.session := rfl
@[simp] theorem cfgWrite_cfg (i : Nat) (v : BitVec 16) (s : State) : (cfgWrite i v s).cfg = s.cfg.setIfInBounds i v := rfl
@[simp] theorem cfgWrite_tb0 (i : Nat) (v : BitVec 16) (s : State) : (cfgWrite i v s).tb0 = s.tb0 := rfl
@[simp] theorem cfgWrite_tb1 (i : Nat) (v : BitVec 16) (s : State) : (cfgWrite i v s).tb1 = s.tb1 := rfl
@[simp] theorem cfgWrite_tb2 (i : Nat) (v : BitVec 16) (s : State) : (cfgWrite i v s).tb2 = s.tb2 := rfl
@[simp] theorem cfgWrite_tb3 (i : Nat) (v : BitVec 16) (s : State) : (cfgWrite i v s).tb3 = s.tb3 := rfl
@[simp] theorem cfgWrite_tb4 (i : Nat) (v : BitVec 16) (s : State) : (cfgWrite i v s).tb4 = s.tb4 := rfl
@[simp] theorem cfgWrite_tb5 (i : Nat) (v : BitVec 16) (s : State) : (cfgWrite i v s).tb5 = s.tb5 := rfl
@[simp] theorem cfgWrite_rb4 (i : Nat) (v : BitVec 16) (s : State) : (cfgWrite i v s).rb4 = s.rb4 := rfl
@[simp] theorem cfgWrite_rb3 (i : Nat) (v : BitVec 16) (s : State) : (cfgWrite i v s).rb3 = s.rb3 := rfl
@[simp] theorem cfgWrite_rb2 (i : Nat) (v : BitVec 16) (s : State) : (cfgWrite i v s).rb2 = s.rb2 := rfl
@[simp] theorem cfgWrite_rb1 (i : Nat) (v : BitVec 16) (s : State) : (cfgWrite i v s).rb1 = s.rb1 := rfl
@[simp] theorem cfgWrite_rb0 (i : Nat) (v : BitVec 16) (s : State) : (cfgWrite i v s).rb0 = s.rb0 := rfl
@[simp] theorem cfgWrite_event (i : Nat) (v : BitVec 16) (s : State) : (cfgWrite i v s).event = s.event := rfl
@[simp] theorem cfgWrite_lasterr (i : Nat) (v : BitVec 16) (s : State) : (cfgWrite i v s).lasterr = s.lasterr := rfl
@[simp] theorem cfgWrite_cntUncorr (i : Nat) (v : BitVec 16) (s : State) : (cfgWrite i v s).cntUncorr = s.cntUncorr := rfl
@[simp] theorem cfgWrite_cntSyncloss (i : Nat) (v : BitVec 16) (s : State) : (cfgWrite i v s).cntSyncloss = s.cntSyncloss := rfl
@[simp] theorem cfgWrite_cntOverrun (i : Nat) (v : BitVec 16) (s : State) : (cfgWrite i v s).cntOverrun = s.cntOverrun := rfl
@[simp] theorem cfgWrite_cntUnderrun (i : Nat) (v : BitVec 16) (s : State) : (cfgWrite i v s).cntUnderrun = s.cntUnderrun := rfl
@[simp] theorem cfgWrite_cntTxerr (i : Nat) (v : BitVec 16) (s : State) : (cfgWrite i v s).cntTxerr = s.cntTxerr := rfl
@[simp] theorem cfgWrite_cntLdpcfail (i : Nat) (v : BitVec 16) (s : State) : (cfgWrite i v s).cntLdpcfail = s.cntLdpcfail := rfl
@[simp] theorem cfgWrite_cntDropped (i : Nat) (v : BitVec 16) (s : State) : (cfgWrite i v s).cntDropped = s.cntDropped := rfl
@[simp] theorem cfgWrite_bchErrcnt (i : Nat) (v : BitVec 16) (s : State) : (cfgWrite i v s).bchErrcnt = s.bchErrcnt := rfl
@[simp] theorem cfgWrite_ldpcIter (i : Nat) (v : BitVec 16) (s : State) : (cfgWrite i v s).ldpcIter = s.ldpcIter := rfl
@[simp] theorem cfgWrite_stChunk (i : Nat) (v : BitVec 16) (s : State) : (cfgWrite i v s).stChunk = s.stChunk := rfl
@[simp] theorem cfgWrite_stPllen (i : Nat) (v : BitVec 16) (s : State) : (cfgWrite i v s).stPllen = s.stPllen := rfl
@[simp] theorem cfgWrite_txq (i : Nat) (v : BitVec 16) (s : State) : (cfgWrite i v s).txq = s.txq := rfl
@[simp] theorem cfgWrite_rxq (i : Nat) (v : BitVec 16) (s : State) : (cfgWrite i v s).rxq = s.rxq := rfl
@[simp] theorem cfgWrite_mfq (i : Nat) (v : BitVec 16) (s : State) : (cfgWrite i v s).mfq = s.mfq := rfl
@[simp] theorem cfgWrite_gap (i : Nat) (v : BitVec 16) (s : State) : (cfgWrite i v s).gap = s.gap := rfl
@[simp] theorem cfgWrite_gapLen (i : Nat) (v : BitVec 16) (s : State) : (cfgWrite i v s).gapLen = s.gapLen := rfl
@[simp] theorem cfgWrite_txdl (i : Nat) (v : BitVec 16) (s : State) : (cfgWrite i v s).txdl = s.txdl := rfl
@[simp] theorem cfgWrite_rxdl (i : Nat) (v : BitVec 16) (s : State) : (cfgWrite i v s).rxdl = s.rxdl := rfl
@[simp] theorem cfgWrite_sync (i : Nat) (v : BitVec 16) (s : State) : (cfgWrite i v s).sync = s.sync := rfl

@[simp] theorem clearStreams_rom (m n w : Nat) (s : State) : (clearStreams m n w s).rom = s.rom := rfl
@[simp] theorem clearStreams_inputs (m n w : Nat) (s : State) : (clearStreams m n w s).inputs = s.inputs := rfl
@[simp] theorem clearStreams_bbin (m n w : Nat) (s : State) : (clearStreams m n w s).bbin = s.bbin := rfl
@[simp] theorem clearStreams_bbout (m n w : Nat) (s : State) : (clearStreams m n w s).bbout = s.bbout := rfl
@[simp] theorem clearStreams_bboutReady (m n w : Nat) (s : State) : (clearStreams m n w s).bboutReady = s.bboutReady := rfl
@[simp] theorem clearStreams_rsp (m n w : Nat) (s : State) : (clearStreams m n w s).rsp = s.rsp := rfl
@[simp] theorem clearStreams_radioTx (m n w : Nat) (s : State) : (clearStreams m n w s).radioTx = s.radioTx := rfl
@[simp] theorem clearStreams_session (m n w : Nat) (s : State) : (clearStreams m n w s).session = s.session := rfl
@[simp] theorem clearStreams_cfg (m n w : Nat) (s : State) : (clearStreams m n w s).cfg = s.cfg := rfl
@[simp] theorem clearStreams_tb0 (m n w : Nat) (s : State) : (clearStreams m n w s).tb0 = none := rfl
@[simp] theorem clearStreams_tb1 (m n w : Nat) (s : State) : (clearStreams m n w s).tb1 = none := rfl
@[simp] theorem clearStreams_tb2 (m n w : Nat) (s : State) : (clearStreams m n w s).tb2 = none := rfl
@[simp] theorem clearStreams_tb3 (m n w : Nat) (s : State) : (clearStreams m n w s).tb3 = none := rfl
@[simp] theorem clearStreams_tb4 (m n w : Nat) (s : State) : (clearStreams m n w s).tb4 = none := rfl
@[simp] theorem clearStreams_tb5 (m n w : Nat) (s : State) : (clearStreams m n w s).tb5 = none := rfl
@[simp] theorem clearStreams_rb4 (m n w : Nat) (s : State) : (clearStreams m n w s).rb4 = none := rfl
@[simp] theorem clearStreams_rb3 (m n w : Nat) (s : State) : (clearStreams m n w s).rb3 = none := rfl
@[simp] theorem clearStreams_rb2 (m n w : Nat) (s : State) : (clearStreams m n w s).rb2 = none := rfl
@[simp] theorem clearStreams_rb1 (m n w : Nat) (s : State) : (clearStreams m n w s).rb1 = none := rfl
@[simp] theorem clearStreams_rb0 (m n w : Nat) (s : State) : (clearStreams m n w s).rb0 = none := rfl
@[simp] theorem clearStreams_event (m n w : Nat) (s : State) : (clearStreams m n w s).event = s.event := rfl
@[simp] theorem clearStreams_lasterr (m n w : Nat) (s : State) : (clearStreams m n w s).lasterr = s.lasterr := rfl
@[simp] theorem clearStreams_cntUncorr (m n w : Nat) (s : State) : (clearStreams m n w s).cntUncorr = s.cntUncorr := rfl
@[simp] theorem clearStreams_cntSyncloss (m n w : Nat) (s : State) : (clearStreams m n w s).cntSyncloss = s.cntSyncloss := rfl
@[simp] theorem clearStreams_cntOverrun (m n w : Nat) (s : State) : (clearStreams m n w s).cntOverrun = s.cntOverrun := rfl
@[simp] theorem clearStreams_cntUnderrun (m n w : Nat) (s : State) : (clearStreams m n w s).cntUnderrun = s.cntUnderrun := rfl
@[simp] theorem clearStreams_cntTxerr (m n w : Nat) (s : State) : (clearStreams m n w s).cntTxerr = s.cntTxerr := rfl
@[simp] theorem clearStreams_cntLdpcfail (m n w : Nat) (s : State) : (clearStreams m n w s).cntLdpcfail = s.cntLdpcfail := rfl
@[simp] theorem clearStreams_cntDropped (m n w : Nat) (s : State) : (clearStreams m n w s).cntDropped = s.cntDropped := rfl
@[simp] theorem clearStreams_bchErrcnt (m n w : Nat) (s : State) : (clearStreams m n w s).bchErrcnt = 0 := rfl
@[simp] theorem clearStreams_ldpcIter (m n w : Nat) (s : State) : (clearStreams m n w s).ldpcIter = 0 := rfl
@[simp] theorem clearStreams_stChunk (m n w : Nat) (s : State) : (clearStreams m n w s).stChunk = s.stChunk := rfl
@[simp] theorem clearStreams_stPllen (m n w : Nat) (s : State) : (clearStreams m n w s).stPllen = s.stPllen := rfl
@[simp] theorem clearStreams_txq (m n w : Nat) (s : State) : (clearStreams m n w s).txq = [] := rfl
@[simp] theorem clearStreams_rxq (m n w : Nat) (s : State) : (clearStreams m n w s).rxq = [] := rfl
@[simp] theorem clearStreams_mfq (m n w : Nat) (s : State) : (clearStreams m n w s).mfq = [] := rfl
@[simp] theorem clearStreams_gap (m n w : Nat) (s : State) : (clearStreams m n w s).gap = false := rfl
@[simp] theorem clearStreams_gapLen (m n w : Nat) (s : State) : (clearStreams m n w s).gapLen = 0 := rfl
@[simp] theorem clearStreams_txdl (m n w : Nat) (s : State) : (clearStreams m n w s).txdl = List.replicate m Sample.zero := rfl
@[simp] theorem clearStreams_rxdl (m n w : Nat) (s : State) : (clearStreams m n w s).rxdl = List.replicate n Sample.zero := rfl
@[simp] theorem clearStreams_sync (m n w : Nat) (s : State) : (clearStreams m n w s).sync = SyncState.cleared w 0 := rfl

@[simp] theorem stopSession_rom (s : State) : (stopSession s).rom = s.rom := rfl
@[simp] theorem stopSession_inputs (s : State) : (stopSession s).inputs = s.inputs := rfl
@[simp] theorem stopSession_bbin (s : State) : (stopSession s).bbin = s.bbin := rfl
@[simp] theorem stopSession_bbout (s : State) : (stopSession s).bbout = s.bbout := rfl
@[simp] theorem stopSession_bboutReady (s : State) : (stopSession s).bboutReady = s.bboutReady := rfl
@[simp] theorem stopSession_rsp (s : State) : (stopSession s).rsp = s.rsp := rfl
@[simp] theorem stopSession_radioTx (s : State) : (stopSession s).radioTx = s.radioTx := rfl
@[simp] theorem stopSession_session (s : State) : (stopSession s).session = .idle := rfl
@[simp] theorem stopSession_cfg (s : State) : (stopSession s).cfg = s.cfg := rfl
@[simp] theorem stopSession_tb0 (s : State) : (stopSession s).tb0 = none := rfl
@[simp] theorem stopSession_tb1 (s : State) : (stopSession s).tb1 = none := rfl
@[simp] theorem stopSession_tb2 (s : State) : (stopSession s).tb2 = none := rfl
@[simp] theorem stopSession_tb3 (s : State) : (stopSession s).tb3 = none := rfl
@[simp] theorem stopSession_tb4 (s : State) : (stopSession s).tb4 = none := rfl
@[simp] theorem stopSession_tb5 (s : State) : (stopSession s).tb5 = none := rfl
@[simp] theorem stopSession_rb4 (s : State) : (stopSession s).rb4 = none := rfl
@[simp] theorem stopSession_rb3 (s : State) : (stopSession s).rb3 = none := rfl
@[simp] theorem stopSession_rb2 (s : State) : (stopSession s).rb2 = none := rfl
@[simp] theorem stopSession_rb1 (s : State) : (stopSession s).rb1 = none := rfl
@[simp] theorem stopSession_rb0 (s : State) : (stopSession s).rb0 = none := rfl
@[simp] theorem stopSession_event (s : State) : (stopSession s).event = s.event := rfl
@[simp] theorem stopSession_lasterr (s : State) : (stopSession s).lasterr = s.lasterr := rfl
@[simp] theorem stopSession_cntUncorr (s : State) : (stopSession s).cntUncorr = s.cntUncorr := rfl
@[simp] theorem stopSession_cntSyncloss (s : State) : (stopSession s).cntSyncloss = s.cntSyncloss := rfl
@[simp] theorem stopSession_cntOverrun (s : State) : (stopSession s).cntOverrun = s.cntOverrun := rfl
@[simp] theorem stopSession_cntUnderrun (s : State) : (stopSession s).cntUnderrun = s.cntUnderrun := rfl
@[simp] theorem stopSession_cntTxerr (s : State) : (stopSession s).cntTxerr = s.cntTxerr := rfl
@[simp] theorem stopSession_cntLdpcfail (s : State) : (stopSession s).cntLdpcfail = s.cntLdpcfail := rfl
@[simp] theorem stopSession_cntDropped (s : State) : (stopSession s).cntDropped = s.cntDropped := rfl
@[simp] theorem stopSession_bchErrcnt (s : State) : (stopSession s).bchErrcnt = 0 := rfl
@[simp] theorem stopSession_ldpcIter (s : State) : (stopSession s).ldpcIter = 0 := rfl
@[simp] theorem stopSession_stChunk (s : State) : (stopSession s).stChunk = 0 := rfl
@[simp] theorem stopSession_stPllen (s : State) : (stopSession s).stPllen = 0 := rfl
@[simp] theorem stopSession_txq (s : State) : (stopSession s).txq = [] := rfl
@[simp] theorem stopSession_rxq (s : State) : (stopSession s).rxq = [] := rfl
@[simp] theorem stopSession_mfq (s : State) : (stopSession s).mfq = [] := rfl
@[simp] theorem stopSession_gap (s : State) : (stopSession s).gap = false := rfl
@[simp] theorem stopSession_gapLen (s : State) : (stopSession s).gapLen = 0 := rfl
@[simp] theorem stopSession_txdl (s : State) : (stopSession s).txdl = [] := rfl
@[simp] theorem stopSession_rxdl (s : State) : (stopSession s).rxdl = [] := rfl
@[simp] theorem stopSession_sync (s : State) : (stopSession s).sync = SyncState.cleared 0 0 := rfl

@[simp] theorem resetCore_rom (s : State) : (resetCore s).rom = s.rom := rfl
@[simp] theorem resetCore_inputs (s : State) : (resetCore s).inputs = s.inputs := rfl
@[simp] theorem resetCore_bbin (s : State) : (resetCore s).bbin = s.bbin := rfl
@[simp] theorem resetCore_bbout (s : State) : (resetCore s).bbout = s.bbout := rfl
@[simp] theorem resetCore_bboutReady (s : State) : (resetCore s).bboutReady = s.bboutReady := rfl
@[simp] theorem resetCore_rsp (s : State) : (resetCore s).rsp = s.rsp := rfl
@[simp] theorem resetCore_radioTx (s : State) : (resetCore s).radioTx = s.radioTx := rfl
@[simp] theorem resetCore_session (s : State) : (resetCore s).session = .idle := rfl
@[simp] theorem resetCore_cfg (s : State) : (resetCore s).cfg = State.reset.cfg := rfl
@[simp] theorem resetCore_tb0 (s : State) : (resetCore s).tb0 = none := rfl
@[simp] theorem resetCore_tb1 (s : State) : (resetCore s).tb1 = none := rfl
@[simp] theorem resetCore_tb2 (s : State) : (resetCore s).tb2 = none := rfl
@[simp] theorem resetCore_tb3 (s : State) : (resetCore s).tb3 = none := rfl
@[simp] theorem resetCore_tb4 (s : State) : (resetCore s).tb4 = none := rfl
@[simp] theorem resetCore_tb5 (s : State) : (resetCore s).tb5 = none := rfl
@[simp] theorem resetCore_rb4 (s : State) : (resetCore s).rb4 = none := rfl
@[simp] theorem resetCore_rb3 (s : State) : (resetCore s).rb3 = none := rfl
@[simp] theorem resetCore_rb2 (s : State) : (resetCore s).rb2 = none := rfl
@[simp] theorem resetCore_rb1 (s : State) : (resetCore s).rb1 = none := rfl
@[simp] theorem resetCore_rb0 (s : State) : (resetCore s).rb0 = none := rfl
@[simp] theorem resetCore_event (s : State) : (resetCore s).event = 0 := rfl
@[simp] theorem resetCore_lasterr (s : State) : (resetCore s).lasterr = 0 := rfl
@[simp] theorem resetCore_cntUncorr (s : State) : (resetCore s).cntUncorr = 0 := rfl
@[simp] theorem resetCore_cntSyncloss (s : State) : (resetCore s).cntSyncloss = 0 := rfl
@[simp] theorem resetCore_cntOverrun (s : State) : (resetCore s).cntOverrun = 0 := rfl
@[simp] theorem resetCore_cntUnderrun (s : State) : (resetCore s).cntUnderrun = 0 := rfl
@[simp] theorem resetCore_cntTxerr (s : State) : (resetCore s).cntTxerr = 0 := rfl
@[simp] theorem resetCore_cntLdpcfail (s : State) : (resetCore s).cntLdpcfail = 0 := rfl
@[simp] theorem resetCore_cntDropped (s : State) : (resetCore s).cntDropped = 0 := rfl
@[simp] theorem resetCore_bchErrcnt (s : State) : (resetCore s).bchErrcnt = 0 := rfl
@[simp] theorem resetCore_ldpcIter (s : State) : (resetCore s).ldpcIter = 0 := rfl
@[simp] theorem resetCore_stChunk (s : State) : (resetCore s).stChunk = 0 := rfl
@[simp] theorem resetCore_stPllen (s : State) : (resetCore s).stPllen = 0 := rfl
@[simp] theorem resetCore_txq (s : State) : (resetCore s).txq = [] := rfl
@[simp] theorem resetCore_rxq (s : State) : (resetCore s).rxq = [] := rfl
@[simp] theorem resetCore_mfq (s : State) : (resetCore s).mfq = [] := rfl
@[simp] theorem resetCore_gap (s : State) : (resetCore s).gap = false := rfl
@[simp] theorem resetCore_gapLen (s : State) : (resetCore s).gapLen = 0 := rfl
@[simp] theorem resetCore_txdl (s : State) : (resetCore s).txdl = [] := rfl
@[simp] theorem resetCore_rxdl (s : State) : (resetCore s).rxdl = [] := rfl
@[simp] theorem resetCore_sync (s : State) : (resetCore s).sync = SyncState.cleared 0 0 := rfl

end Sys2Proof.Machine
end

