-- ==== Sys2Proof/Laws/Ops.lean ====
section
/-! SUPPORT. What each shared operation does, said once: the preambles of a command, taking an exception, the configuration
registers, the counters, and the lengths of what the stages make. -/

namespace Sys2Proof.Machine

/-! ### Preambles -/

theorem whenActive_idle {s : State} (h : s.session = .idle) (f : Prof → StepResult) :
    whenActive s f = failWith (.illegalCommand .wrongState) s := by simp [whenActive, h]

theorem whenActive_active {s : State} {p : Prof} (h : s.session = .active p) (f : Prof → StepResult) :
    whenActive s f = f p := by simp [whenActive, h]

theorem whenIdle_idle {s : State} (h : s.session = .idle) (r : StepResult) : whenIdle s r = r := by simp [whenIdle, h]

theorem whenIdle_active {s : State} {p : Prof} (h : s.session = .active p) (r : StepResult) :
    whenIdle s r = failWith (.illegalCommand .wrongState) s := by simp [whenIdle, h]

theorem whenIndex_le {idx : BitVec 8} {last : Nat} (h : idx.toNat ≤ last) (s : State) (r : StepResult) :
    whenIndex idx last s r = r := by simp [whenIndex, h]

theorem whenIndex_gt {idx : BitVec 8} {last : Nat} (h : last < idx.toNat) (s : State) (r : StepResult) :
    whenIndex idx last s r = failWith (.illegalCommand .badIndex) s := by simp [whenIndex, Nat.not_le.2 h]

theorem whenCount_ne {n : BitVec 16} (h : n.toNat ≠ 0) (s : State) (r : StepResult) : whenCount n s r = r := by
  simp only [whenCount, if_neg h]

theorem whenCount_zero {n : BitVec 16} (h : n.toNat = 0) (s : State) (r : StepResult) :
    whenCount n s r = failWith (.illegalCommand .zeroCount) s := by simp only [whenCount, if_pos h]

/-- A command that needs ACTIVE either answers WRONG_STATE or runs its meaning with the latched profile. -/
theorem whenActive_cases (s : State) (f : Prof → StepResult) :
    (s.session = .idle ∧ whenActive s f = failWith (.illegalCommand .wrongState) s) ∨
      ∃ p, s.session = .active p ∧ whenActive s f = f p := by
  cases h : s.session with
  | idle => exact .inl ⟨rfl, whenActive_idle h f⟩
  | active p => exact .inr ⟨p, rfl, whenActive_active h f⟩

/-- A command that needs IDLE either runs its meaning or answers WRONG_STATE. -/
theorem whenIdle_cases (s : State) (r : StepResult) :
    (s.session = .idle ∧ whenIdle s r = r) ∨
      ∃ p, s.session = .active p ∧ whenIdle s r = failWith (.illegalCommand .wrongState) s := by
  cases h : s.session with
  | idle => exact .inl ⟨rfl, whenIdle_idle h r⟩
  | active p => exact .inr ⟨p, rfl, whenIdle_active h r⟩

/-! ### Responses and exceptions -/

theorem respondOk_eq (v : BitVec 32) (s : State) : respondOk v s = .next (respond 0x00 v s) := rfl

theorem respondBusy_eq (s : State) : respondBusy s = .next (respond 0x01 0 s) := rfl

theorem failWith_eq (e : Exc) (s : State) :
    failWith e s = .next (respond (0x80 + excCode e) ((excSub e).setWidth 32) (raiseExc e s)) := rfl

@[simp] theorem bumpIf_false (c : BitVec 32) : bumpIf false c = c := rfl

@[simp] theorem bumpIf_true (c : BitVec 32) : bumpIf true c = satInc c := rfl

/-- A saturating increment adds 1 or leaves the greatest value. -/
theorem satInc_toNat (w : BitVec 32) : (satInc w).toNat = min (w.toNat + 1) 0xFFFFFFFF := by
  have hw := w.isLt
  unfold satInc
  split
  · next h => rw [h]; rfl
  · next h =>
    have : w.toNat ≠ 0xFFFFFFFF := fun e => h (BitVec.eq_of_toNat_eq (by simpa using e))
    rw [BitVec.toNat_add]
    have e : (1 : BitVec 32).toNat = 1 := rfl
    omega

theorem le_satInc (w : BitVec 32) : w.toNat ≤ (satInc w).toNat := by
  have := w.isLt
  rw [satInc_toNat]
  omega

theorem le_bumpIf (b : Bool) (w : BitVec 32) : w.toNat ≤ (bumpIf b w).toNat := by
  cases b
  · simp
  · simpa using le_satInc w

/-- Setting an event bit keeps every bit that was set. -/
theorem withEvent_keeps (b : EventBit) (ev : BitVec 32) : ev &&& withEvent b ev = ev := by
  ext i hi
  simp [withEvent]
  intro h
  exact .inl h

theorem excRecord_toNat_lt (e : Exc) : (excRecord e).toNat < 65536 := by
  have := (excSub e ++ excCode e).isLt
  simp only [excRecord, BitVec.toNat_setWidth]
  omega

/-! ### Configuration registers -/

theorem cfgRead_lt {s : State} {i : Nat} (h : i < 14) : cfgRead s i = s.cfg[i] := by simp [cfgRead, h]

theorem cfgRead_cfgWrite (s : State) (i j : Nat) (v : BitVec 16) (hi : i < 14) :
    cfgRead (cfgWrite i v s) j = if j = i then v else cfgRead s j := by
  unfold cfgRead cfgWrite
  by_cases hj : j < 14
  · by_cases e : j = i
    · subst e; simp [hj]
    · have e' : ¬ i = j := fun h => e h.symm
      simp [hj, e, e']
  · have : j ≠ i := by omega
    simp [hj, this]

/-! ### Lengths -/

@[simp] theorem bitsOfNat_length (n v : Nat) : (bitsOfNat n v).length = n := by simp [bitsOfNat]

@[simp] theorem groupsOf_length {α : Type} (k n : Nat) (l : List α) : (groupsOf k n l).length = n := by
  induction n generalizing l with
  | zero => rfl
  | succ n ih => simp [groupsOf, ih]

@[simp] theorem bitsOfBytes_length (c : List Byte) : (bitsOfBytes c).length = 8 * c.length := by
  induction c with
  | nil => rfl
  | cons x c ih =>
    simp only [bitsOfBytes, List.flatMap_cons, List.length_append, List.length_map, List.length_range, List.length_cons] at *
    omega

@[simp] theorem bytesOfBits_length (n : Nat) (b : List Bool) : (bytesOfBits n b).length = n := by simp [bytesOfBits]

@[simp] theorem bchEncode_length (r g : Nat) (u : List Bool) : (bchEncode r g u).length = u.length + r := by
  simp [bchEncode]

@[simp] theorem runningXor_length (prev : Bool) (b : List Bool) : (runningXor prev b).length = b.length := by
  induction b generalizing prev with
  | nil => rfl
  | cons x b ih => simp [runningXor, ih]

/-- Adding one information bit to accumulators keeps how many there are. -/
theorem foldl_modify_length (js : List Nat) (b : Bool) (p : List Bool) :
    (js.foldl (fun p j => p.modify j (fun x => x != b)) p).length = p.length := by
  induction js generalizing p with
  | nil => rfl
  | cons j js ih => simp [ih]

@[simp] theorem accumulate_length (c : LdpcCode) (m : Nat) (i p : List Bool) : (accumulate c m i p).length = p.length := by
  induction i generalizing m p with
  | nil => rfl
  | cons b i ih => simp [accumulate, ih, foldl_modify_length]

@[simp] theorem ldpcParity_length (c : LdpcCode) (i : List Bool) : (ldpcParity c i).length = c.npar := by
  simp [ldpcParity]

/-- Every element of the interleaved sequence: the one pi names, or the free one where it names none. -/
theorem interleave_getElem? {α : Type} (h : Interleaver) (free : Nat → α) (x : List α) {n : Nat} (hn : n < x.length) :
    (interleave h free x)[n]? = some ((elementAt x (ilvPerm h n)).getD (free n)) := by simp [interleave, hn]

/-- Every element of the de-interleaved sequence: the one pi sends there, or the free one where it sends none. -/
theorem deinterleave_getElem? {α : Type} (h : Interleaver) (free : Nat → α) (y : List α) {k : Nat} (hk : k < y.length) :
    (deinterleave h free y)[k]? = some ((elementAt y (ilvPermInv h y.length k)).getD (free k)) := by simp [deinterleave, hk]

@[simp] theorem interleave_length {α : Type} (h : Interleaver) (free : Nat → α) (x : List α) : (interleave h free x).length = x.length := by
  simp [interleave]

@[simp] theorem deinterleave_length {α : Type} (h : Interleaver) (free : Nat → α) (x : List α) :
    (deinterleave h free x).length = x.length := by simp [deinterleave]

@[simp] theorem mapFrame_length (points : List Sample) (eta nsym : Nat) (b : List Bool) :
    (mapFrame points eta nsym b).length = nsym := by simp [mapFrame]

@[simp] theorem demapSymbol_length (points : List Sample) (p : Prof) (y : Sample) :
    (demapSymbol points p y).length = p.row.eta := by simp [demapSymbol]

@[simp] theorem demapFrame_length (points : List Sample) (p : Prof) (y : List Sample) :
    (demapFrame points p y).length = y.length * p.row.eta := by
  induction y with
  | nil => simp [demapFrame]
  | cons x y ih =>
    simp only [demapFrame, List.flatMap_cons, List.length_append, demapSymbol_length, List.length_cons] at *
    rw [ih, Nat.succ_mul, Nat.add_comm]

@[simp] theorem shapeSymbol_length (taps : List Int) (sps span : Nat) (dl : List Sample) (x : Sample) :
    (shapeSymbol taps sps span dl x).length = sps := by simp [shapeSymbol]

/-- SHAPE makes sps samples for each symbol (46_filter.md R300). -/
theorem shapeFrame_length (taps : List Int) (sps span : Nat) (f dl : List Sample) :
    (shapeFrame taps sps span f dl).1.length = f.length * sps := by
  induction f generalizing dl with
  | nil => simp [shapeFrame]
  | cons x f ih => simp [shapeFrame, ih, Nat.succ_mul, Nat.add_comm]

/-- MFILT makes one sample for each sample (46_filter.md R303). -/
theorem mfiltRun_length (taps : List Int) (len : Nat) (x : List TaggedSample) (dl : List Sample) :
    (mfiltRun taps len x dl).1.length = x.length := by
  induction x generalizing dl with
  | nil => rfl
  | cons a x ih => simp [mfiltRun, ih]

/-- Filtering a list of samples in two parts (46_filter.md R305). -/
theorem mfiltRun_append (taps : List Int) (len : Nat) (x y : List TaggedSample) (dl : List Sample) :
    mfiltRun taps len (x ++ y) dl =
      ((mfiltRun taps len x dl).1 ++ (mfiltRun taps len y (mfiltRun taps len x dl).2).1,
        (mfiltRun taps len y (mfiltRun taps len x dl).2).2) := by
  induction x generalizing dl with
  | nil => simp [mfiltRun]
  | cons a x ih => simp [mfiltRun, ih]

@[simp] theorem plHeader_length (rom : Rom) (modcod : Nat) (short pilots : Bool) :
    (plHeader rom modcod short pilots).length = rom.hdrLen := by
  have h : (plsCode modcod short pilots).length = 64 := by
    have : ∀ l : List Bool, (l.flatMap (fun b => [b, b != pilots])).length = 2 * l.length := by
      intro l
      induction l with
      | nil => rfl
      | cons b l ih => simp only [List.flatMap_cons, List.length_append, ih, List.length_cons, List.length_nil]; omega
    simp [plsCode, this]
  simp [plHeader, headerBits, h]
  omega

@[simp] theorem profHeader_length (rom : Rom) (p : Prof) : (profHeader rom p).length = rom.hdrLen := plHeader_length ..

end Sys2Proof.Machine
end

