-- ==== Sys2Proof/Laws/PerInstr.lean ====
section
/-! SUPPORT. A family of statements about every command as syntax: the fields of its word that its format says must be 0 are
0, and its opcode field is the opcode of 30_encoding.md R103 (R100). -/

namespace Sys2Proof.Laws.WordFields

/-- The opcode of a command (30_encoding.md R103). -/
def opcode : Instr → BitVec 8
  | .reset => 0x01
  | .cfgw _ _ => 0x02
  | .cfgr _ => 0x03
  | .start => 0x04
  | .stop => 0x05
  | .rdstat _ => 0x06
  | .clrev _ => 0x07
  | .ldbb => 0x10
  | .bchenc => 0x11
  | .ldpcenc => 0x12
  | .ilv => 0x13
  | .map => 0x14
  | .plfrm => 0x15
  | .shape => 0x16
  | .mfilt _ => 0x20
  | .sync _ => 0x21
  | .demap => 0x22
  | .deilv => 0x23
  | .ldpcdec => 0x24
  | .bchdec => 0x25
  | .stbb => 0x26

/-- Whether the format of the command has an operand in bits 23:16, and in bits 15:0 (30_encoding.md R100). -/
def operandFields : Instr → Bool × Bool
  | .cfgw _ _ => (true, true)
  | .cfgr _ | .rdstat _ => (true, false)
  | .clrev _ | .mfilt _ | .sync _ => (false, true)
  | .reset | .start | .stop | .ldbb | .bchenc | .ldpcenc | .ilv | .map | .plfrm | .shape | .demap | .deilv | .ldpcdec
  | .bchdec | .stbb => (false, false)

/-- The word of the command has its opcode in bits 31:24, and 0 in every field that carries no operand. -/
def Statement (i : Instr) : Prop :=
  (encode i).extractLsb' 24 8 = opcode i ∧ ((operandFields i).1 = false → (encode i).extractLsb' 16 8 = 0) ∧
    ((operandFields i).2 = false → (encode i).extractLsb' 0 16 = 0)

/-- A field of a word built by `commandWord`. -/
theorem commandWord_opcode (o i : BitVec 8) (m : BitVec 16) : (commandWord o i m).extractLsb' 24 8 = o := by
  unfold commandWord
  apply BitVec.eq_of_getLsbD_eq
  intro k hk
  simp only [BitVec.getLsbD_extractLsb', BitVec.getLsbD_append]
  grind

theorem commandWord_index (o i : BitVec 8) (m : BitVec 16) : (commandWord o i m).extractLsb' 16 8 = i := by
  unfold commandWord
  apply BitVec.eq_of_getLsbD_eq
  intro k hk
  simp only [BitVec.getLsbD_extractLsb', BitVec.getLsbD_append]
  grind

theorem commandWord_imm (o i : BitVec 8) (m : BitVec 16) : (commandWord o i m).extractLsb' 0 16 = m := by
  unfold commandWord
  apply BitVec.eq_of_getLsbD_eq
  intro k hk
  simp only [BitVec.getLsbD_extractLsb', BitVec.getLsbD_append]
  grind

theorem reset : Statement .reset := ⟨commandWord_opcode .., fun _ => commandWord_index .., fun _ => commandWord_imm ..⟩

theorem cfgw (a : _) (b : _) : Statement (.cfgw a b) := ⟨commandWord_opcode .., nofun, nofun⟩

theorem cfgr (a : _) : Statement (.cfgr a) := ⟨commandWord_opcode .., nofun, fun _ => commandWord_imm ..⟩

theorem start : Statement .start := ⟨commandWord_opcode .., fun _ => commandWord_index .., fun _ => commandWord_imm ..⟩

theorem stop : Statement .stop := ⟨commandWord_opcode .., fun _ => commandWord_index .., fun _ => commandWord_imm ..⟩

theorem rdstat (a : _) : Statement (.rdstat a) := ⟨commandWord_opcode .., nofun, fun _ => commandWord_imm ..⟩

theorem clrev (a : _) : Statement (.clrev a) := ⟨commandWord_opcode .., fun _ => commandWord_index .., nofun⟩

theorem ldbb : Statement .ldbb := ⟨commandWord_opcode .., fun _ => commandWord_index .., fun _ => commandWord_imm ..⟩

theorem bchenc : Statement .bchenc := ⟨commandWord_opcode .., fun _ => commandWord_index .., fun _ => commandWord_imm ..⟩

theorem ldpcenc : Statement .ldpcenc := ⟨commandWord_opcode .., fun _ => commandWord_index .., fun _ => commandWord_imm ..⟩

theorem ilv : Statement .ilv := ⟨commandWord_opcode .., fun _ => commandWord_index .., fun _ => commandWord_imm ..⟩

theorem map : Statement .map := ⟨commandWord_opcode .., fun _ => commandWord_index .., fun _ => commandWord_imm ..⟩

theorem plfrm : Statement .plfrm := ⟨commandWord_opcode .., fun _ => commandWord_index .., fun _ => commandWord_imm ..⟩

theorem shape : Statement .shape := ⟨commandWord_opcode .., fun _ => commandWord_index .., fun _ => commandWord_imm ..⟩

theorem mfilt (a : _) : Statement (.mfilt a) := ⟨commandWord_opcode .., fun _ => commandWord_index .., nofun⟩

theorem sync (a : _) : Statement (.sync a) := ⟨commandWord_opcode .., fun _ => commandWord_index .., nofun⟩

theorem demap : Statement .demap := ⟨commandWord_opcode .., fun _ => commandWord_index .., fun _ => commandWord_imm ..⟩

theorem deilv : Statement .deilv := ⟨commandWord_opcode .., fun _ => commandWord_index .., fun _ => commandWord_imm ..⟩

theorem ldpcdec : Statement .ldpcdec := ⟨commandWord_opcode .., fun _ => commandWord_index .., fun _ => commandWord_imm ..⟩

theorem bchdec : Statement .bchdec := ⟨commandWord_opcode .., fun _ => commandWord_index .., fun _ => commandWord_imm ..⟩

theorem stbb : Statement .stbb := ⟨commandWord_opcode .., fun _ => commandWord_index .., fun _ => commandWord_imm ..⟩

end Sys2Proof.Laws.WordFields
end

