-- ==== Sys2Proof/Laws/Sync.lean ====
section
/-! SUPPORT. What SYNC can change of the state, said once: every operation of 47_synchronizer.md changes at most `MFQ`,
`RB4`, the synchronization state, `ST_EVENT`, `ST_LASTERR`, `CNT_SYNCLOSS` and `CNT_DROPPED`. -/

namespace Sys2Proof.Machine

/-- `t` differs from `s` at most in the fields SYNC may change. -/
def SyncChange (s t : State) : Prop :=
  t = { s with
    mfq := t.mfq, rb4 := t.rb4, sync := t.sync, event := t.event, lasterr := t.lasterr
    cntSyncloss := t.cntSyncloss, cntDropped := t.cntDropped }

theorem SyncChange.refl (s : State) : SyncChange s s := rfl

theorem SyncChange.trans {s t u : State} (h : SyncChange s t) (k : SyncChange t u) : SyncChange s u := by
  unfold SyncChange at *
  rw [k, h]

theorem withSync_change (y : SyncState) (s : State) : SyncChange s (withSync y s) := rfl

theorem modifySync_change (f : SyncState → SyncState) (r : SyncRun) : SyncChange r.st (modifySync f r).st := rfl

theorem countDropped_change (s : State) : SyncChange s (countDropped s) := rfl

theorem raise_loss_change (s : State) : SyncChange s (raiseExc .synchronizationLoss s) := rfl

theorem gapAction_change (p : Prof) (r : SyncRun) : SyncChange r.st (gapAction p r).st := by
  unfold gapAction
  split
  · exact (countDropped_change r.st).trans (modifySync_change _ _)
  · exact modifySync_change _ _

theorem searchStep_change (hdr : List Sample) (p : Prof) (e : Nat) (r : SyncRun) :
    SyncChange r.st (searchStep hdr p e r).st := by
  unfold searchStep
  split
  · exact .refl _
  · dsimp only
    split
    · rfl
    · exact .refl _

theorem syncLoss_change (p : Prof) (r : SyncRun) : SyncChange r.st (syncLoss p r).st := rfl

theorem headerEnd_change (p : Prof) (r : SyncRun) : SyncChange r.st (headerEnd p r).1.st := by
  unfold headerEnd
  dsimp only
  split
  · split
    · exact syncLoss_change p r
    · exact modifySync_change _ _
  · exact modifySync_change _ _

theorem blockEnd_change (p : Prof) (kd : SymbolKind) (r : SyncRun) : SyncChange r.st (blockEnd p kd r).1.st := by
  cases kd with
  | header n => exact headerEnd_change p r
  | data n => exact .refl _
  | pilot b n => exact modifySync_change _ _

theorem frameClose_change (p : Prof) (r : SyncRun) : SyncChange r.st (frameClose p r).st := by
  unfold frameClose
  dsimp only
  split <;> rfl

theorem lockedStep_change (hdr : List Sample) (p : Prof) (e : Nat) (r : SyncRun) :
    SyncChange r.st (lockedStep hdr p e r).st := by
  unfold lockedStep
  dsimp only
  split
  · exact .refl _
  · generalize hr : modifySync (takeSymbol r.st.rom hdr p) r = r1
    have h1 : SyncChange r.st r1.st := by rw [← hr]; rfl
    generalize hb : (if atBlockEnd r.st.rom p (symbolKind r.st.rom p r.st.sync.k) (r.st.sync.k + 1) = true then
        blockEnd p (symbolKind r.st.rom p r.st.sync.k) r1 else (r1, false)) = b
    have h2 : SyncChange r1.st b.1.st := by
      rw [← hb]
      split
      · exact blockEnd_change _ _ _
      · exact .refl _
    have h3 := h1.trans h2
    split
    · exact h3
    · split
      · exact h3.trans (frameClose_change _ _)
      · exact h3

theorem sampleStep_change (hdr : List Sample) (p : Prof) (x : Sample) (r : SyncRun) :
    SyncChange r.st (sampleStep hdr p x r).st := by
  unfold sampleStep
  dsimp only
  have h := modifySync_change (windowIn x) r
  split
  · exact h.trans (searchStep_change _ _ _ _)
  · exact h.trans (lockedStep_change _ _ _ _)

theorem consumeSample_change (hdr : List Sample) (p : Prof) (x : TaggedSample) (rest : List TaggedSample) (r : SyncRun) :
    SyncChange r.st (consumeSample hdr p x rest r).st := by
  unfold consumeSample
  dsimp only
  have h : SyncChange r.st { r.st with mfq := rest } := rfl
  split
  · exact (h.trans (gapAction_change p ⟨{ r.st with mfq := rest }, r.consumed + 1, r.frame, r.lost, r.locked, r.dropped⟩)).trans
      (sampleStep_change _ _ _ _)
  · exact h.trans (sampleStep_change hdr p x.sample ⟨{ r.st with mfq := rest }, r.consumed + 1, r.frame, r.lost, r.locked, r.dropped⟩)

/-- The whole loop of SYNC changes at most the fields of `SyncChange`. -/
theorem syncLoop_change (hdr : List Sample) (p : Prof) (n : Nat) (r : SyncRun) :
    SyncChange r.st (syncLoop hdr p n r).st := by
  induction n generalizing r with
  | zero => exact .refl _
  | succ n ih =>
    unfold syncLoop
    split
    · exact .refl _
    · dsimp only
      have h := consumeSample_change hdr p ‹_› ‹_› r
      split
      · exact h
      · exact h.trans (ih _)

/-- Counting one symbol adds one to the distance, whether `SINCE` wraps or not. -/
@[simp] theorem sinceCount_countSince (y : SyncState) : sinceCount (countSince y) = sinceCount y + 1 := by
  unfold sinceCount countSince
  dsimp only
  split
  · simp_all
    omega
  · have h : y.since.toNat ≠ 65535 := fun h => ‹¬ _› (BitVec.eq_of_toNat_eq h)
    have h2 := y.since.isLt
    rw [BitVec.toNat_add]
    simp
    omega

@[simp] theorem sinceCount_clearSince (y : SyncState) : sinceCount (clearSince y) = 0 := by simp [sinceCount, clearSince]

@[simp] theorem sinceCount_cleared (n pos : Nat) : sinceCount (SyncState.cleared n pos) = 0 := by
  simp [sinceCount, SyncState.cleared]

end Sys2Proof.Machine
end

