-- ==== Sys2Proof/Tests/Slice0.lean ====
section
/-! SUPPORT. Tests of the model on values of spec/ (95_test_vectors.md and the vectors of the family files), and for every
statement with hypotheses a state and operands that meet them. -/

namespace Sys2Proof.Tests

open Sys2Proof.Machine Sys2Proof.Safety

-- One theorem at a time: many kernel evaluations side by side exhaust the memory limit.
set_option Elab.async false

/-! ### Helpers -/

/-- Whether a step answers a next state with the property. -/
def nextSatisfies (r : StepResult) (f : State → Bool) : Bool :=
  match r with
  | .next t => f t
  | .fault _ => false
  | .refused _ => false

/-- The last response record is this one. -/
def lastResponse (status : BitVec 8) (value : BitVec 32) (t : State) : Bool := t.rsp.getLast? == some ⟨status, value⟩

/-- Bits written as 0 and 1. -/
def bits (l : List Nat) : List Bool := l.map (fun x => x == 1)

/-- The taps of the row (35, 2, 4) (46_filter.md R297). -/
def toyTaps : List Int := [1325, -3134, -1964, 14094, 25408, 14094, -1964, -3134, 1325]

/-- IDLE, with the configuration CFG-TOY of 95_test_vectors.md section 2. -/
def toyIdle : State :=
  { State.reset with
    rom := testRom
    cfg := #v[0x7F, 35, 2, 4, 50, 127, 16, 24, 0, 16200, 46, 3, 0x0102, 0x0408] }

/-- The TOY profile as START latches it from `toyIdle`. -/
def toyProf : Prof where
  row := toyRow
  pilots := true
  alpha100 := 35
  sps := 2
  span := 4
  taps := toyTaps
  maxiter := 50
  llrmax := 127
  llrscale := 16
  llrshift := 24
  hard := false
  thresh := 16200
  tshift := 46
  miss := 3
  cloop := 0x0102
  tloop := 0x0408
  lpl := 112
  nsym := 18
  chunkBytes := 1

/-- ACTIVE under the TOY profile, just started. -/
def toyActive : State := beginSession toyProf toyIdle

/-- The TOY message B2 and its frames (95_test_vectors.md sections 4 and 5). -/
def toyMessage : List Bool := bits [1, 0, 1, 1, 0, 0, 1, 0]
def toyCodeword : List Bool := bits [1, 0, 1, 1, 0, 0, 1, 0, 0, 1, 0, 1, 0, 1, 0, 0, 0, 1]
def toyParity : List Bool := bits [0, 1, 0, 0, 1, 0, 1, 1, 1, 0, 0, 0, 0, 0, 1, 0, 0, 0]

/-- LLRs of magnitude 8 with the signs of a bit sequence. -/
def llrsOf (b : List Bool) : List Llr := b.map (fun x => if x then -8 else 8)

/-- A permutation that a platform could supply for the TOY profile: the bits in reverse. -/
def reversedRom : Rom := { testRom with ilv := [⟨31, true, (List.range 36).reverse⟩] }

/-- A table that is no permutation: every output index names input index 5. -/
def brokenRom : Rom := { testRom with ilv := [⟨31, true, List.replicate 36 5⟩] }

/-! ### Decoding: words written out from 30_encoding.md R100 and R103 -/

theorem test_decode_reset : decode 0x01000000 = .instr .reset := by decide
theorem test_decode_cfgw : decode 0x020B1234 = .instr (.cfgw 11 0x1234) := by decide
theorem test_decode_cfgr : decode 0x030B0000 = .instr (.cfgr 11) := by decide
theorem test_decode_start : decode 0x04000000 = .instr .start := by decide
theorem test_decode_stop : decode 0x05000000 = .instr .stop := by decide
theorem test_decode_rdstat : decode 0x06130000 = .instr (.rdstat 19) := by decide
theorem test_decode_clrev : decode 0x0700FFFF = .instr (.clrev 0xFFFF) := by decide
theorem test_decode_ldbb : decode 0x10000000 = .instr .ldbb := by decide
theorem test_decode_bchenc : decode 0x11000000 = .instr .bchenc := by decide
theorem test_decode_ldpcenc : decode 0x12000000 = .instr .ldpcenc := by decide
theorem test_decode_ilv : decode 0x13000000 = .instr .ilv := by decide
theorem test_decode_map : decode 0x14000000 = .instr .map := by decide
theorem test_decode_plfrm : decode 0x15000000 = .instr .plfrm := by decide
theorem test_decode_shape : decode 0x16000000 = .instr .shape := by decide
theorem test_decode_mfilt : decode 0x200002BB = .instr (.mfilt 699) := by decide
theorem test_decode_sync : decode 0x2100FFFF = .instr (.sync 65535) := by decide
theorem test_decode_demap : decode 0x22000000 = .instr .demap := by decide
theorem test_decode_deilv : decode 0x23000000 = .instr .deilv := by decide
theorem test_decode_ldpcdec : decode 0x24000000 = .instr .ldpcdec := by decide
theorem test_decode_bchdec : decode 0x25000000 = .instr .bchdec := by decide
theorem test_decode_stbb : decode 0x26000000 = .instr .stbb := by decide

theorem test_decode_all_zero_word : decode 0x00000000 = .reservedOpcode := by decide
theorem test_decode_all_one_word : decode 0xFFFFFFFF = .reservedOpcode := by decide
theorem test_decode_reserved_opcodes :
    decode 0x08000000 = .reservedOpcode ∧ decode 0x17000000 = .reservedOpcode ∧ decode 0x27000000 = .reservedOpcode := by
  decide
theorem test_decode_reserved_fields :
    decode 0x01000001 = .reservedField ∧ decode 0x03040001 = .reservedField ∧ decode 0x07010000 = .reservedField ∧
      decode 0x20010004 = .reservedField := by decide

/-! ### Well-formedness: an ill-formed command for each check, and the boundary that passes -/

theorem test_cfgw_index_14_refused : (Instr.cfgw 14 0).wellFormed = false ∧ (Instr.cfgw 13 0).wellFormed = true := by decide
theorem test_cfgr_index_14_refused : (Instr.cfgr 14).wellFormed = false ∧ (Instr.cfgr 13).wellFormed = true := by decide
theorem test_rdstat_index_22_refused : (Instr.rdstat 22).wellFormed = false ∧ (Instr.rdstat 21).wellFormed = true := by decide
theorem test_mfilt_zero_refused : (Instr.mfilt 0).wellFormed = false ∧ (Instr.mfilt 1).wellFormed = true := by decide
theorem test_sync_zero_refused : (Instr.sync 0).wellFormed = false ∧ (Instr.sync 65535).wellFormed = true := by decide

/-! ### Session, configuration, status (95_test_vectors.md sections 3 and 11, P3) -/

theorem test_reset_clears_counters :
    nextSatisfies (exec .reset { toyActive with cntUncorr := 5 }) (fun t => t == { State.reset with
      rom := testRom, rsp := [⟨0x00, 0⟩] }) = true := by decide +kernel
theorem test_cfgw_bad_index :
    nextSatisfies (exec (.cfgw 14 0) State.reset) (lastResponse 0x87 3) = true := by decide +kernel
theorem test_cfgw_while_active :
    nextSatisfies (exec (.cfgw 1 20) toyActive) (fun t => lastResponse 0x87 4 t && t.cfg == toyIdle.cfg) = true := by
  decide +kernel
theorem test_cfgr_after_reset : nextSatisfies (exec (.cfgr 4) State.reset) (lastResponse 0x00 50) = true := by decide +kernel
theorem test_start_after_reset :
    nextSatisfies (exec .start State.reset) (fun t => lastResponse 0x81 1 t && t.lasterr == 0x0101 && t.event == 1) = true := by
  decide +kernel
theorem test_start_toy :
    nextSatisfies (exec .start toyIdle) (fun t => lastResponse 0x00 1 t && t.session == .active toyProf && t.stPllen == 112) =
      true := by decide +kernel
theorem test_stop_empties :
    nextSatisfies (exec .stop { toyActive with tb0 := some toyMessage }) (fun t => t.tb0.isNone && t.session == .idle) = true := by
  decide +kernel
theorem test_rdstat_flags :
    nextSatisfies (exec (.rdstat 2) { toyActive with rb4 := some [] }) (lastResponse 0x00 0x1000) = true := by decide +kernel
theorem test_clrev_clears :
    nextSatisfies (exec (.clrev 0x0040) { toyActive with event := 0x69 }) (fun t => lastResponse 0x00 0x69 t && t.event == 0x29) =
      true := by decide +kernel

/-! ### Transmit chain (95_test_vectors.md sections 4 to 8) -/

theorem test_ldbb_bits :
    nextSatisfies (exec .ldbb { toyActive with bbin := [[0xB2]] }) (fun t => t.tb0 == some toyMessage && t.bbin.isEmpty) = true := by
  decide +kernel
theorem test_ldbb_long :
    nextSatisfies (exec .ldbb { toyActive with bbin := [[0xB2, 0]] }) (fun t =>
      lastResponse 0x86 2 t && t.tb0.isNone && t.cntTxerr == 1) = true := by decide +kernel
theorem test_bchenc_toy :
    nextSatisfies (exec .bchenc { toyActive with tb0 := some toyMessage }) (fun t => t.tb1 == some toyCodeword) = true := by
  decide +kernel
theorem test_bch_generators :
    bchGenerator bchPolysNormal 12 = 0x14e260e83845c511c50cf2cd8dc350889034785f7660255e7 ∧
    bchGenerator bchPolysNormal 10 = 0x160150cedfc2a331f6a785703efd12301b8bb6591 ∧
    bchGenerator bchPolysNormal 8 = 0x11c07255f712797bd19fc6d7504f9662b ∧
    bchGenerator bchPolysShort 12 = 0x14062dbea9869b262cd23a39069528fe7d7d11905a5 := by decide +kernel
theorem test_ldpcenc_toy :
    nextSatisfies (exec .ldpcenc { toyActive with tb1 := some toyCodeword }) (fun t => t.tb2 == some (toyCodeword ++ toyParity)) =
      true := by decide +kernel
theorem test_ilv_toy8 :
    interleave (ilvOf testRom toy8Row) (fun _ => false) (toyCodeword ++ toyParity) =
      bits [1, 0, 1, 0, 1, 1, 1, 0, 1, 1, 0, 0, 0, 0, 0, 0, 1, 0, 1, 0, 0, 0, 1, 0, 0, 0, 1, 1, 0, 0, 0, 1, 0, 1, 0, 0] := by
  decide +kernel
theorem test_ilv_platform_permutation :
    interleave (ilvOf reversedRom toyRow) (fun _ => false) (toyCodeword ++ toyParity) = (toyCodeword ++ toyParity).reverse := by
  decide +kernel
/-- START takes a table that is no permutation, and ILV runs with it (43_interleaver.md R237). -/
theorem test_ilv_inconsistent_table :
    nextSatisfies (exec .start { toyIdle with rom := brokenRom }) (lastResponse 0x00 1) = true ∧
    nextSatisfies (exec .ilv { toyActive with rom := brokenRom, tb2 := some (toyCodeword ++ toyParity) })
      (fun t => lastResponse 0x00 0 t && t.tb3 == some (List.replicate 36 false)) = true := by decide +kernel
theorem test_ilv_8psk_3_5 :
    interleave (ilvOf testRom { toy8Row with rate := .r3_5 }) (fun _ => false) (toyCodeword ++ toyParity) =
      bits [1, 0, 1, 1, 1, 0, 1, 0, 1, 0, 0, 1, 0, 0, 0, 0, 1, 0, 0, 0, 1, 0, 1, 0, 1, 0, 0, 0, 0, 1, 0, 1, 0, 0, 0, 1] := by
  decide +kernel
theorem test_map_toy :
    nextSatisfies (exec .map { toyActive with tb3 := some (toyCodeword ++ toyParity) }) (fun t =>
      lastResponse 0x00 18 t && (t.tb4.map (·.take 3)) ==
        some [.ofInts (-2896) 2896, .ofInts (-2896) (-2896), .ofInts 2896 2896]) = true := by decide +kernel
theorem test_plfrm_header :
    natOfBits ((headerBits testRom 31 true true).drop 26) = 0xE7F4EA5F3AD4BB93 ∧
    natOfBits ((headerBits defaultRom 4 false true).drop 26) = 0x2437D66306E87850 := by decide +kernel
theorem test_plfrm_pilots :
    nextSatisfies (exec .plfrm { toyActive with tb4 := some (List.replicate 18 Sample.zero) }) (fun t =>
      lastResponse 0x00 112 t && (t.tb5.map (fun f => (f.drop 101).take 6)) ==
        some [Sample.zero, .ofInts 2896 2896, .ofInts 2896 2896, .ofInts 2896 2896, .ofInts 2896 2896, Sample.zero]) = true := by
  decide +kernel
theorem test_shape_impulse :
    shapeFrame toyTaps 2 4 [.ofInts 4096 (-4096), .ofInts (-4096) 0] (List.replicate 4 Sample.zero) =
      ([.ofInts 166 (-166), .ofInts (-392) 392, .ofInts (-411) 246, .ofInts 2154 (-1762)],
        [.ofInts (-4096) 0, .ofInts 4096 (-4096), Sample.zero, Sample.zero]) := by decide +kernel
theorem test_shape_busy_when_full :
    nextSatisfies (exec .shape { toyActive with tb5 := some [], rom := { testRom with txqDepth := 223 } })
      (lastResponse 0x01 0) = true := by decide +kernel

/-! ### Receive chain (95_test_vectors.md sections 4 to 9) -/

theorem test_mfilt_saturates :
    ((mfiltRun toyTaps 8 (List.replicate 5 ⟨.ofInts 32767 (-32767), false, 0⟩) (List.replicate 8 Sample.zero)).1.map (·.sample)) =
      [.ofInts 1325 (-1325), .ofInts (-1809) 1809, .ofInts (-3773) 3773, .ofInts 10321 (-10321), .ofInts 32767 (-32767)] := by
  decide +kernel
theorem test_mfilt_zero_count : nextSatisfies (exec (.mfilt 0) toyActive) (lastResponse 0x87 5) = true := by decide +kernel
theorem test_sync_empty : nextSatisfies (exec (.sync 16) toyActive) (lastResponse 0x00 0) = true := by decide +kernel
theorem test_demap_qpsk :
    demapFrame qpskPoints toyProf [.ofInts 3000 (-100), .ofInts 32767 (-32767)] = [33, -1, 127, -127] := by decide +kernel
theorem test_demap_hard_tie :
    demapFrame qpskPoints { toyProf with hard := true } [Sample.zero, .ofInts (-2896) 2896] = [127, 127, -127, 127] := by
  decide +kernel
theorem test_deilv_toy8 :
    deinterleave (ilvOf testRom toy8Row) (fun _ => false) (interleave (ilvOf testRom toy8Row) (fun _ => false) (toyCodeword ++ toyParity)) =
      toyCodeword ++ toyParity := by decide +kernel
theorem test_ldpcdec_one_error :
    nextSatisfies (exec .ldpcdec { toyActive with rb2 := some ((llrsOf (toyCodeword ++ toyParity)).modify 4 (fun x => -x)) })
      (fun t => lastResponse 0x00 1 t && t.rb1 == some ⟨toyCodeword, false⟩) = true := by decide +kernel
theorem test_ldpcdec_flagged :
    nextSatisfies (exec .ldpcdec { toyActive with
      session := .active { toyProf with maxiter := 2, llrmax := 31 }
      rb2 := some (((llrsOf (toyCodeword ++ toyParity)).modify 12 (fun x => -x)).modify 14 (fun x => -x)) })
      (fun t => lastResponse 0x00 0x10002 t && t.cntLdpcfail == 1 && t.event == 0x100) = true := by decide +kernel
theorem test_bchdec_two_flips :
    nextSatisfies (exec .bchdec { toyActive with
      rb1 := some ⟨(toyCodeword.modify 3 (!·)).modify 17 (!·), true⟩ })
      (fun t => lastResponse 0x00 2 t && t.rb0 == some toyMessage && t.bchErrcnt == 2) = true := by decide +kernel
theorem test_bchdec_three_flips :
    nextSatisfies (exec .bchdec { toyActive with
      rb1 := some ⟨((toyCodeword.modify 0 (!·)).modify 1 (!·)).modify 2 (!·), false⟩ })
      (fun t => lastResponse 0x82 1 t && t.rb0.isNone && t.bchErrcnt == 0xFFFFFFFF && t.lasterr == 0x0102) = true := by
  decide +kernel
theorem test_stbb_bytes :
    nextSatisfies (exec .stbb { toyActive with rb0 := some toyMessage }) (fun t => t.bbout == [[0xB2]] && t.rb0.isNone) = true := by
  decide +kernel

/-! ### The synchronizer's functions (47_synchronizer.md R343) -/

theorem test_arg :
    [pArg ⟨0, 1⟩, pArg ⟨3, 4⟩, pArg ⟨-1000, -1⟩, pArg ⟨1507449088, 330144⟩] =
      [0x40002EFC, 0x25C7DB40, 0x800AA396, 0x00025CEA] := by decide +kernel
theorem test_rot :
    [pRot ⟨4096, 0⟩ 0x10000000, pRot ⟨100, -200⟩ 0x12345678, pRot ⟨32767, 32767⟩ 0x20000000] =
      [.ofInts 3784 1567, .ofInts 177 (-137), .ofInts (-1) 32767] := by decide +kernel
theorem test_interp :
    [pInterp (.ofInts 100 0) (.ofInts 200 0) (.ofInts 300 40) 16384, pInterp (.ofInts 100 0) (.ofInts 200 0) (.ofInts 300 40) (-8192)] =
      [.ofInts 250 20, .ofInts 175 0] := by decide +kernel

/-! ### The step -/

theorem test_step_runs_placed_word :
    nextSatisfies (step (State.reset.withFetchWord 32 0x03040000)) (lastResponse 0x00 50) = true := by decide +kernel
theorem test_table_word : decodeTableWord 32 0x020B1234 = some (.cfgw 11 0x1234) := by decide

/-! ### Witnesses: for every statement with hypotheses, a state and operands that meet them, clause by clause -/

/-- ACTIVE, with every buffer FULL except the one each stage writes: `TB0`, `TB2`, `TB4`, `RB3`, `RB1` FULL. -/
def toyEven : State :=
  { toyActive with
    tb0 := some toyMessage, tb2 := some (toyCodeword ++ toyParity), tb4 := some (List.replicate 18 Sample.zero)
    rb3 := some (llrsOf (toyCodeword ++ toyParity)), rb1 := some ⟨toyCodeword, true⟩ }

/-- ACTIVE, with the other buffers FULL: `TB1`, `TB3`, `TB5`, `RB4`, `RB2`, `RB0`. -/
def toyOdd : State :=
  { toyActive with
    tb1 := some toyCodeword, tb3 := some (toyCodeword ++ toyParity), tb5 := some (List.replicate 112 Sample.zero)
    rb4 := some (List.replicate 18 Sample.zero), rb2 := some (llrsOf (toyCodeword ++ toyParity)), rb0 := some toyMessage }

/-- The profile TOY8 (8PSK), as START would latch it. -/
def toy8Prof : Prof := { toyProf with row := toy8Row, nsym := 12, lpl := 102 }

/-- ACTIVE and LOCKED, one symbol instant before the end of a frame, with one sample left to consume. -/
def toyLocked : State :=
  { toyActive with
    mfq := [⟨Sample.zero, false, 0⟩, ⟨Sample.zero, false, 0⟩]
    sync := { SyncState.cleared 182 223 with mode := .locked, k := 111, acc := List.replicate 17 Sample.zero } }

/-- ACTIVE, with samples in `RXQ` and `MFQ`. -/
def toyStream : State :=
  { toyActive with
    rxq := List.replicate 3 ⟨.ofInts 5 (-7), false, 0⟩
    mfq := [⟨.ofInts 1 2, true, 4⟩, ⟨.ofInts 3 4, false, 0⟩]
    txq := [.ofInts 9 9] }

/-- ACTIVE, with `RXQ` at its capacity of three samples and `TB5` FULL. -/
def toyFull : State := { toyStream with rom := { testRom with rxqDepth := 3 }, tb5 := some (List.replicate 112 Sample.zero) }

/-- ACTIVE and LOCKED at the instant of the symbol of index `k`, with `ACC` holding the data symbols before it. -/
def toyAt (k : Nat) : State :=
  { toyActive with
    mfq := [⟨.ofInts 100 (-50), false, 0⟩]
    sync := { SyncState.cleared 182 (2 * k + 1) with
      mode := .locked, k := k, acc := List.replicate (dataBefore testRom toyProf k) Sample.zero } }

/-- Whether a state is at the instant of its symbol. -/
def atInstant (s : State) : Bool := decide ((s.sync.pos : Int) = s.sync.next + ((s.sync.k * toyProf.sps + 1 : Nat) : Int))

/-- The window of a receiver that has just seen a whole header, two samples a symbol. -/
def headerWindow : List Sample :=
  ((profHeader testRom toyProf).flatMap (fun x => [x, Sample.zero])).reverse ++ List.replicate 2 Sample.zero

/-- A SYNC in progress with this synchronization state. -/
def runWith (y : SyncState) : SyncRun := syncBegin { toyActive with sync := y }

theorem witness_EncodeOfDecode :
    decode 0x02FFFFFF = .instr (.cfgw 0xFF 0xFFFF) ∧ decode 0x0700FFFF = .instr (.clrev 0xFFFF) ∧
      decode 0x26000000 = .instr .stbb := by decide

theorem witness_CommandChecksInOrder :
    firstFailure 0xFF000001 toyIdle = some 1 ∧ firstFailure 0x040E0000 toyActive = some 2 ∧
    firstFailure 0x020E0000 toyActive = some 3 ∧ firstFailure 0x06160000 toyIdle = some 3 ∧
    firstFailure 0x20000000 toyIdle = some 5 ∧ firstFailure 0x10000000 toyIdle = some 4 ∧
    firstFailure 0x020D0000 toyActive = some 4 ∧
    firstFailure 0x06150000 toyIdle = none ∧ firstFailure 0x10000000 toyActive = none ∧
    enabled .ldbb toyActive = false ∧ enabled .shape toyEven = false ∧ enabled .bchenc toyEven = true ∧
    enabled (.mfilt 3) toyStream = true ∧ enabled (.mfilt 4) toyStream = false := by decide +kernel

theorem witness_StepRunsNextCommand :
    ∃ (s : State) (rest : List AgentStep), s.inputs = .command 0x06130000 :: rest ∧ decode 0x06130000 = .instr (.rdstat 19) ∧ toyActive.inputs = [] :=
  ⟨{ toyActive with inputs := [.command 0x06130000, .radioPop] }, [.radioPop], by decide +kernel⟩

theorem witness_OneResponsePerCommand :
    (∃ t r, exec .ldbb toyActive = .next t ∧ t.rsp = toyActive.rsp ++ [r] ∧ r.status = 0x01) ∧
      (∀ w, AgentStep.radioPop ≠ .command w) :=
  ⟨⟨_, ⟨0x01, 0⟩, rfl, rfl, rfl⟩, fun _ h => nomatch h⟩

theorem witness_ConfigurationFrozen :
    isReset (.command 0x020D0001) = false ∧ toyIdle.session = .idle ∧ decode 0x020D0001 = .instr (.cfgw 13 1) ∧
      (13 : BitVec 8).toNat ≤ 13 ∧ decode 0x020E0001 = .instr (.cfgw 14 1) ∧ 13 < (14 : BitVec 8).toNat ∧
      isReset .radioPop = false ∧ toyActive.session ≠ .idle := by decide +kernel

theorem witness_SessionTransitions :
    isReset .hardwareReset = true ∧ isReset (.command 0x01000000) = true ∧ encode .stop = 0x05000000 ∧
    encode .start = 0x04000000 ∧ toyActive.session = .active toyProf ∧ isReset .radioPop = false ∧
    toyIdle.session = .idle ∧ startCheck toyIdle = .ok (toyRow, toyTaps) ∧
    State.reset.session = .idle ∧ startCheck State.reset = .error .unknownModcod := by decide +kernel

theorem witness_EventsAndCountersAccumulate :
    isReset (.command 0x07000002) = false ∧ decode 0x07000002 = .instr (.clrev 2) ∧ isReset .radioPop = false ∧
      decode 0x10000000 ≠ .instr (.clrev 2) := by decide +kernel

theorem witness_LastErrorRegister :
    isReset (.command 0x01000000) = true ∧ isReset (.command 0x02010023) = false ∧
      (raiseExc (.txChunkError .long) toyActive).lasterr = 0x0206 := by decide +kernel

theorem witness_ExceptionEntry :
    (Exc.streamOverrun, 5, 1, 4) ∈ exceptionTable ∧ (Exc.configurationError .badMiss, 1, 9, 0) ∈ exceptionTable ∧
      (Exc.illegalCommand .zeroCount, 7, 5, 6) ∈ exceptionTable := by decide +kernel

theorem witness_DecoderResultRegisters :
    (toyIdle.session = .idle ∧ startCheck toyIdle = .ok (toyRow, toyTaps) ∧
      startCheck State.reset = .error .unknownModcod ∧
      toyEven.session = .active toyProf ∧ toyEven.rb1 = some ⟨toyCodeword, true⟩ ∧ toyEven.rb0 = none ∧ toyEven.rb2 = none ∧
      toyOdd.session = .active toyProf ∧ toyOdd.rb2 = some (llrsOf (toyCodeword ++ toyParity)) ∧ toyOdd.rb1 = none ∧
      AgentStep.radioPop ≠ .stopSignal ∧ AgentStep.radioPop ≠ .hardwareReset) ∧
    ∀ i, AgentStep.stopSignal ≠ .command (encode i) ∧ AgentStep.radioPop ≠ .command (encode i) :=
  ⟨by decide +kernel, fun _ => ⟨AgentStep.noConfusion, AgentStep.noConfusion⟩⟩

theorem witness_ConfigurationWriteRead :
    toyIdle.session = .idle ∧ (0 : BitVec 8).toNat ≤ 13 ∧ (13 : BitVec 8).toNat ≤ 13 := by decide +kernel

theorem witness_StartBeginsSession :
    toyIdle.session = .idle ∧
    cfgNat toyIdle 0 < 128 ∧ cfgNat toyIdle 1 < 128 ∧ cfgNat toyIdle 7 < 64 ∧ cfgNat toyIdle 8 < 2 ∧ cfgNat toyIdle 10 < 64 ∧
    profileLookup toyIdle.rom (cfgNat toyIdle 0 % 32) (cfgNat toyIdle 0 / 32 % 2 == 1) = some toyRow ∧
    1 ≤ cfgNat toyIdle 1 ∧ cfgNat toyIdle 1 ≤ 100 ∧ 2 ≤ cfgNat toyIdle 2 ∧ cfgNat toyIdle 2 ≤ toyIdle.rom.spsMax ∧
    2 ≤ cfgNat toyIdle 3 ∧ cfgNat toyIdle 3 ≤ toyIdle.rom.spanMax ∧
    rrcLookup toyIdle.rom (cfgNat toyIdle 1) (cfgNat toyIdle 2) (cfgNat toyIdle 3) = some toyTaps ∧
    1 ≤ cfgNat toyIdle 4 ∧ 1 ≤ cfgNat toyIdle 5 ∧ cfgNat toyIdle 5 ≤ 127 ∧ 1 ≤ cfgNat toyIdle 6 ∧ cfgNat toyIdle 7 ≤ 47 ∧
    1 ≤ cfgNat toyIdle 11 := by decide +kernel

theorem witness_StartReportsFirstFailure :
    toyIdle.session = .idle ∧ (startTable toyIdle).find? (fun e => e.1) = none ∧
    (startTable State.reset).find? (fun e => e.1) = some (true, 1) ∧
    (startTable { toyIdle with cfg := toyIdle.cfg.set 11 0 }).find? (fun e => e.1) = some (true, 9) ∧
    (startTable { toyIdle with cfg := (toyIdle.cfg.set 0 0xFFFF).set 11 0 }).find? (fun e => e.1) = some (true, 2) := by
  decide +kernel

theorem witness_SessionsIndependent :
    toyEven.rom = toyLocked.rom ∧ toyEven.cfg = toyLocked.cfg ∧ toyEven ≠ toyLocked := by decide +kernel

theorem witness_StatusRegistersRead : (21 : BitVec 8).toNat ≤ 21 ∧ (0 : BitVec 8).toNat ≤ 21 := by decide

theorem witness_LdbbLoadsChunk :
    ∃ (s : State) (p : Prof) (c : List Byte) (rest : List (List Byte)),
      s.session = .active p ∧ s.tb0 = none ∧ s.bbin = c :: rest ∧ c.length = p.chunkBytes :=
  ⟨{ toyActive with bbin := [[0xB2], []] }, toyProf, [0xB2], [[]], by decide +kernel⟩

theorem witness_LdbbRejectsWrongLength :
    ∃ (s s' : State) (p : Prof) (c c' : List Byte),
      s.session = .active p ∧ s.tb0 = none ∧ s.bbin = c :: [] ∧ c.length < p.chunkBytes ∧
      s'.session = .active p ∧ s'.tb0 = none ∧ s'.bbin = c' :: [] ∧ p.chunkBytes < c'.length :=
  ⟨{ toyActive with bbin := [[]] }, { toyActive with bbin := [[1, 2]] }, toyProf, [], [1, 2], by decide +kernel⟩

theorem witness_StbbStoresChunk :
    toyOdd.session = .active toyProf ∧ toyOdd.rb0 = some toyMessage ∧ toyOdd.bboutReady = true ∧
      toyMessage.length = 8 * toyProf.chunkBytes := by decide +kernel

theorem witness_RadioSteps :
    toyIdle.session = .idle ∧ toyActive.session = .active toyProf ∧ toyActive.txq = [] ∧
    toyStream.session = .active toyProf ∧ toyStream.txq = [.ofInts 9 9] ∧ toyStream.rxq.length < toyStream.rom.rxqDepth ∧
    toyFull.session = .active toyProf ∧ toyFull.rom.rxqDepth ≤ toyFull.rxq.length := by decide +kernel

theorem witness_BchencMakesCodeword :
    toyEven.session = .active toyProf ∧ toyEven.tb0 = some toyMessage ∧ toyEven.tb1 = none ∧
    profGenerator toyEven.rom toyProf ≠ 0 ∧
    Nat.log2 (profGenerator toyEven.rom toyProf) = toyProf.row.m * toyProf.row.t := by decide +kernel

theorem witness_BchEncoderLinear : toyMessage.length = (bits [0, 0, 0, 0, 0, 0, 0, 1]).length := by decide

theorem witness_BchdecBounded :
    toyEven.session = .active toyProf ∧ toyEven.rb1 = some ⟨toyCodeword, true⟩ ∧ toyEven.rb0 = none ∧
    bchDecode (profField toyEven.rom toyProf) toyProf.row.t toyCodeword = some (toyCodeword, 0) ∧
    bchDecode (profField toyEven.rom toyProf) toyProf.row.t ((toyCodeword.modify 3 (!·)).modify 17 (!·)) = some (toyCodeword, 2) ∧
    bchDecode (profField toyEven.rom toyProf) toyProf.row.t
      (((toyCodeword.modify 0 (!·)).modify 1 (!·)).modify 2 (!·)) = none := by decide +kernel

theorem witness_ToyBchCorrectsTwo :
    toyMessage.length = 8 ∧ (bits [1, 0, 0, 0, 0, 0, 0, 0, 0, 0, 0, 0, 0, 0, 0, 0, 0, 1]).length = 18 ∧
      (bits [1, 0, 0, 0, 0, 0, 0, 0, 0, 0, 0, 0, 0, 0, 0, 0, 0, 1]).count true ≤ 2 := by decide

theorem witness_LdpcencSatisfiesChecks :
    toyOdd.session = .active toyProf ∧ toyOdd.tb1 = some toyCodeword ∧ toyOdd.tb2 = none ∧
    toyCodeword.length = toyProf.row.kldpc ∧
    (∀ m, m < toyProf.row.kldpc → (bitChecks (profLdpc toyOdd.rom toyProf) m).Nodup) := by decide +kernel

theorem witness_LdpcdecOutcome :
    toyOdd.session = .active toyProf ∧ toyOdd.rb2 = some (llrsOf (toyCodeword ++ toyParity)) ∧ toyOdd.rb1 = none ∧
    (llrsOf (toyCodeword ++ toyParity)).length = (profLdpc testRom toyProf).kldpc + (profLdpc testRom toyProf).npar ∧
    covers (profLdpc testRom toyProf) 0 18 = true ∧ covers (profLdpc testRom toyProf) 17 34 = true := by decide +kernel

theorem witness_LdpcCleanRoundTrip :
    1 ≤ toyProf.llrmax ∧ toyCodeword.length = toyProf.row.kldpc ∧
    (∀ m, m < toyProf.row.kldpc → (bitChecks (profLdpc toyOdd.rom toyProf) m).Nodup) ∧
    (llrsOf (toyCodeword ++ toyParity)).map (fun x => decide (x.toInt < 0)) =
      toyCodeword ++ ldpcParity (profLdpc toyOdd.rom toyProf) toyCodeword := by decide +kernel

theorem witness_IlvPermutes :
    ∃ s : State, s.session = .active toy8Prof ∧ s.tb2 = some (toyCodeword ++ toyParity) ∧ s.tb3 = none ∧
      2 ≤ toy8Prof.row.eta ∧ toy8Prof.row.order = 2 ^ toy8Prof.row.eta ∧ toy8Prof.row.nldpc % toy8Prof.row.eta = 0 ∧
      (toyCodeword ++ toyParity).length = toy8Prof.row.nldpc ∧ ilvTableOk s.rom toy8Prof.row = true ∧
      ilvSource s.rom toy8Prof.row 35 = some 35 ∧ ilvSource brokenRom toyRow 0 = some 5 :=
  ⟨{ toyEven with session := .active toy8Prof }, by decide +kernel⟩

theorem witness_DeilvInverts :
    ∃ s : State, s.session = .active toy8Prof ∧ s.rb3 = some (llrsOf (toyCodeword ++ toyParity)) ∧ s.rb2 = none ∧
      2 ≤ toy8Prof.row.eta ∧ toy8Prof.row.order = 2 ^ toy8Prof.row.eta ∧ toy8Prof.row.nldpc % toy8Prof.row.eta = 0 ∧
      (llrsOf (toyCodeword ++ toyParity)).length = toy8Prof.row.nldpc ∧
      ilvTableOk s.rom toy8Prof.row = true ∧ ilvTableOk reversedRom toyRow = true ∧
      ilvSource s.rom toy8Prof.row 1 = some 12 ∧ (∀ n, n < 36 → 1 < n → ilvSource s.rom toy8Prof.row n ≠ some 12) :=
  ⟨{ toyEven with session := .active toy8Prof }, by decide +kernel⟩

theorem witness_MapSelectsPoints :
    toyOdd.session = .active toyProf ∧ toyOdd.tb3 = some (toyCodeword ++ toyParity) ∧ toyOdd.tb4 = none ∧
      (toyCodeword ++ toyParity).length = toyProf.nsym * toyProf.row.eta := by decide +kernel

theorem witness_DemapHardDecides :
    ∃ (s : State) (p : Prof) (y : List Sample), s.session = .active p ∧ s.rb4 = some y ∧ s.rb3 = none ∧ p.hard = true ∧
      p.llrmax ≤ 127 ∧ pointsOf s.rom p.row.order p.row.rate ≠ [] ∧ 0 < y.length :=
  ⟨{ toyOdd with session := .active { toyProf with hard := true } }, { toyProf with hard := true },
    List.replicate 18 Sample.zero, by decide +kernel⟩

theorem witness_DemapSoftWeighs :
    toyOdd.session = .active toyProf ∧ toyOdd.rb4 = some (List.replicate 18 Sample.zero) ∧ toyOdd.rb3 = none ∧
      toyProf.hard = false ∧ toyProf.llrmax ≤ 127 ∧
      (pointsOf toyOdd.rom toyProf.row.order toyProf.row.rate).length = 2 ^ toyProf.row.eta ∧
      0 < (List.replicate 18 Sample.zero).length ∧ 1 < toyProf.row.eta := by decide +kernel

theorem witness_MapDemapRoundTrip :
    ∃ c ∈ standardConstellations, c.order = 2 ^ toyProf.row.eta ∧ 1 ≤ toyProf.llrmax ∧ toyProf.llrmax ≤ 127 ∧
      (toyProf.llrscale = 16 ∧ toyProf.llrshift = 24) ∧ (toyCodeword ++ toyParity).length = 18 * toyProf.row.eta :=
  ⟨⟨4, none, qpskPoints⟩, by decide +kernel⟩

theorem witness_PlfrmBuildsFrame :
    toyEven.session = .active toyProf ∧ toyEven.tb4 = some (List.replicate 18 Sample.zero) ∧ toyEven.tb5 = none ∧
    0 < toyEven.rom.slotLen ∧ 0 < toyEven.rom.pilotPeriod ∧ 0 < slotsOf toyEven.rom toyProf.row ∧
    (List.replicate 18 Sample.zero).length = slotsOf toyEven.rom toyProf.row * toyEven.rom.slotLen ∧
    toyProf.lpl = plLength toyEven.rom toyProf.row toyProf.pilots ∧ 64 ≤ toyEven.rom.hdrLen ∧ 89 < toyEven.rom.hdrLen := by
  decide +kernel

theorem witness_ShapeFilters :
    toyOdd.session = .active toyProf ∧ toyOdd.tb5 = some (List.replicate 112 Sample.zero) ∧
      toyOdd.txq.length + toyProf.lpl * toyProf.sps ≤ toyOdd.rom.txqDepth ∧ toyOdd.txdl.length = toyProf.span ∧
      toyProf.taps.length = toyProf.span * toyProf.sps + 1 := by decide +kernel

theorem witness_MfiltFilters :
    toyStream.session = .active toyProf ∧ (3 : BitVec 16).toNat ≠ 0 ∧ (3 : BitVec 16).toNat ≤ toyStream.rxq.length ∧
      toyStream.mfq.length + (3 : BitVec 16).toNat ≤ toyStream.rom.rxqDepth ∧
      toyProf.taps.length = toyProf.span * toyProf.sps + 1 ∧ toyStream.rxdl.length = toyProf.span * toyProf.sps ∧
      toyStream.rxq[2]? = some ⟨.ofInts 5 (-7), false, 0⟩ := by decide +kernel

theorem witness_FilterSplitting :
    toyStream.session = .active toyProf ∧ (1 : BitVec 16).toNat ≠ 0 ∧ (2 : BitVec 16).toNat ≠ 0 ∧
      (1 : BitVec 16).toNat + (2 : BitVec 16).toNat = (3 : BitVec 16).toNat ∧
      (3 : BitVec 16).toNat ≤ toyStream.rxq.length ∧
      toyStream.mfq.length + (3 : BitVec 16).toNat ≤ toyStream.rom.rxqDepth ∧
    toyFull ≠ toyOdd ∧ toyFull.session = .active toyProf ∧ toyFull.tb5 = toyOdd.tb5 ∧ toyOdd.txdl = toyFull.txdl ∧
      toyOdd.txq.length + toyProf.lpl * toyProf.sps ≤ toyOdd.rom.txqDepth ∧
      toyFull.txq.length + toyProf.lpl * toyProf.sps ≤ toyFull.rom.txqDepth := by decide +kernel

theorem witness_SyncConsumes :
    toyLocked.session = .active toyProf ∧ (65535 : BitVec 16).toNat ≠ 0 ∧ (1 : BitVec 16).toNat ≠ 0 ∧ toyActive.mfq = [] ∧
    nextSatisfies (exec (.sync 65535) toyLocked) (fun t => lastResponse 0x00 0x10001 t && t.rb4.isSome) = true ∧
    nextSatisfies (exec (.sync 1) toyStream) (lastResponse 0x00 1) = true ∧
    nextSatisfies (exec (.sync 1) { toyStream with sync := toyLocked.sync }) (lastResponse 0x00 0x80001) = true := by
  decide +kernel

theorem witness_SyncSplitting :
    toyStream.session = .active toyProf ∧ (1 : BitVec 16).toNat ≠ 0 ∧ (2 : BitVec 16).toNat ≠ 0 ∧
      (1 : BitVec 16).toNat + (2 : BitVec 16).toNat = (3 : BitVec 16).toNat ∧
      nextSatisfies (exec (.sync 1) toyStream) (lastResponse 0x00 1) = true ∧
      nextSatisfies (exec (.sync 1) toyLocked) (lastResponse 0x00 0x10001) = true := by decide +kernel

theorem witness_FrameCommitsEstimates :
    toyLocked.session = .active toyProf ∧ (1 : BitVec 16).toNat ≠ 0 ∧
      nextSatisfies (exec (.sync 1) toyLocked) (lastResponse 0x00 0x10001) = true ∧
      (syncBegin toyLocked).st.rb4 = none ∧ (syncBegin toyOdd).st.rb4 = some (List.replicate 18 Sample.zero) := by decide +kernel

/-- ACTIVE and SEARCHING, with one sample to consume after a whole header. -/
def toySearching : State :=
  { toyActive with mfq := [⟨Sample.zero, false, 0⟩], sync := { SyncState.cleared 182 179 with win := headerWindow.tail ++ [Sample.zero] } }

/-- SYNC in SEARCHING takes the header: lock at its start, with the response flag LOCKED (47_synchronizer.md R318, R321). -/
theorem test_sync_acquires :
    nextSatisfies (exec (.sync 1) toySearching) (fun t =>
      lastResponse 0x00 0x40001 t && t.sync.mode == .locked && t.sync.next == 0 && t.sync.k == 90 && t.event == 0x80) = true := by
  decide +kernel

theorem witness_SearchAcquires :
    178 + 1 < 90 * toyProf.sps ∧ 90 * toyProf.sps ≤ 179 + 1 ∧ 0 < toyProf.sps ∧
    (normSq (correlate (profHeader testRom toyProf) (List.replicate 182 Sample.zero) toyProf.sps (90 * toyProf.sps - 1)) >>>
      toyProf.tshift ≤ (toyProf.thresh : Int)) ∧
    ((toyProf.thresh : Int) <
      normSq (correlate (profHeader testRom toyProf) headerWindow toyProf.sps (90 * toyProf.sps - 1)) >>> toyProf.tshift) ∧
    toySearching.session = .active toyProf ∧ toySearching.sync.mode = .searching ∧
    toySearching.mfq = ⟨Sample.zero, false, 0⟩ :: [] := by decide +kernel

theorem witness_HeaderCheckPolicy :
    (∃ r : SyncRun, normSq r.st.sync.cAcc >>> toyProf.tshift < (toyProf.thresh : Int) ∧
      toyProf.miss ≤ r.st.sync.miss.toNat + 1) ∧
    (∃ r : SyncRun, normSq r.st.sync.cAcc >>> toyProf.tshift < (toyProf.thresh : Int) ∧
      r.st.sync.miss.toNat + 1 < toyProf.miss) ∧
    (∃ r : SyncRun, (toyProf.thresh : Int) ≤ normSq r.st.sync.cAcc >>> toyProf.tshift ∧
      -16384 ≤ r.st.sync.wTiming.toInt ∧ r.st.sync.wTiming.toInt ≤ 16384 ∧
      (∃ t, t = romTloop r.st.rom toyProf.tloop r.st.sync.cAcc r.st.sync.eAcc r.st.sync.lAcc r.st.sync.wTiming.toInt ∧
        16384 < t ∧ t ≤ 49152)) ∧
    testRom.cloop.lookup (0x0102, ⟨1, 1⟩, 70000, 0, 0) = none ∧ testRom.tloop.lookup (0x0408, ⟨9, 0⟩, ⟨0, 0⟩, ⟨9, 9⟩, 0) = none ∧
    normSq ⟨9, 0⟩ >>> 4 < normSq ⟨9, 9⟩ - normSq ⟨0, 0⟩ :=
  ⟨⟨runWith { toyLocked.sync with miss := 2 }, by decide +kernel⟩, ⟨runWith { toyLocked.sync with miss := 1 }, by decide +kernel⟩,
    ⟨runWith { toyLocked.sync with cAcc := ⟨1509765120, 0⟩, lAcc := ⟨1509765120, 0⟩, wTiming := 16384 },
      by decide +kernel, by decide +kernel, by decide +kernel, _, rfl, by decide +kernel⟩, by decide +kernel⟩

theorem witness_GapRestartsSearch :
    2 ≤ toyProf.sps ∧ (⟨.ofInts 1 2, true, 4⟩ : TaggedSample).gap = true ∧ toyStream.session = .active toyProf ∧
    toyStream.mfq = ⟨.ofInts 1 2, true, 4⟩ :: [⟨.ofInts 3 4, false, 0⟩] := by decide +kernel

theorem witness_NumericFunctionsExact :
    (0 : Int) < 1 ∧ testRom.arg.lookup ⟨1, 2⟩ = none ∧ testRom.rot.lookup (⟨1, 2⟩, 3) = none ∧
    testRom.interp.lookup (Sample.zero, Sample.zero, Sample.zero, 4) = none ∧
    ({ testRom with arg := [(⟨1, 2⟩, 7)] } : Rom).arg.lookup ⟨1, 2⟩ = some 7 ∧
    ({ testRom with rot := [((⟨1, 2⟩, 3), Sample.zero)] } : Rom).rot.lookup (⟨1, 2⟩, 3) = some Sample.zero ∧
    ({ testRom with interp := [((Sample.zero, Sample.zero, Sample.zero, 4), Sample.zero)] } : Rom).interp.lookup
      (Sample.zero, Sample.zero, Sample.zero, 4) = some Sample.zero ∧
    ({ testRom with cloop := [((1, ⟨1, 2⟩, 3, 4, 5), (6, 7))] } : Rom).cloop.lookup (1, ⟨1, 2⟩, 3, 4, 5) = some (6, 7) ∧
    ({ testRom with tloop := [((1, ⟨1, 2⟩, ⟨3, 4⟩, ⟨5, 6⟩, 7), 8)] } : Rom).tloop.lookup (1, ⟨1, 2⟩, ⟨3, 4⟩, ⟨5, 6⟩, 7) = some 8 := by
  decide +kernel

theorem witness_TransmitIsolated :
    isTransmit .bchenc = true ∧ isTransmit .shape = true ∧ txPart toyEven = txPart { toyEven with rb1 := none, sync := toyLocked.sync } ∧
      toyEven ≠ { toyEven with rb1 := none, sync := toyLocked.sync } := by decide +kernel

theorem witness_ReceiveIsolated :
    isReceive .bchdec = true ∧ isReceive (.sync 5) = true ∧ rxPart toyEven = rxPart { toyEven with tb0 := none, txq := toyStream.txq } ∧
      toyEven ≠ { toyEven with tb0 := none, txq := toyStream.txq } := by decide +kernel

theorem witness_StepKeepsSession :
    sessionSound toyEven = true ∧ sessionSound { toyIdle with inputs := [.command 0x04000000] } = true := by decide +kernel
theorem witness_StepKeepsIdleAndFlags :
    idleClean toyIdle = true ∧ flagsSound toyIdle = true ∧ idleClean toyStream = true ∧ flagsSound toyStream = true := by
  decide +kernel
theorem witness_StepKeepsTransmitFrames :
    sessionSound toyEven = true ∧ txFramesFit { toyEven with inputs := [.command 0x11000000] } = true ∧ txFramesFit toyOdd = true := by
  decide +kernel
theorem witness_StepKeepsReceiveFrames :
    sessionSound toyLocked = true ∧ rxFramesFit { toyLocked with inputs := [.command 0x21000001] } = true ∧
      rxFramesFit toyOdd = true := by decide +kernel
theorem witness_StepKeepsQueues :
    sessionSound toyOdd = true ∧ txFramesFit toyOdd = true ∧ queuesFit { toyOdd with inputs := [.command 0x16000000] } = true := by
  decide +kernel
theorem witness_StepKeepsSynchronizer :
    loopsSound toyLocked.rom = true ∧ sessionSound toyLocked = true ∧
      syncSound { toyLocked with inputs := [.command 0x21000001] } = true ∧ syncSound toyActive = true := by decide +kernel

/-- For every kind of symbol: away from the instant, data inside the frame, the last data symbol with `RB4` EMPTY and FULL, a
header symbol and a pilot symbol inside their blocks, and the last of each. -/
theorem witness_LockedTakesSymbols :
    (toyAt 95).session = .active toyProf ∧ (toyAt 95).sync.mode = .locked ∧
    (toyAt 95).mfq = ⟨.ofInts 100 (-50), false, 0⟩ :: [] ∧
    atInstant toyLocked = true ∧ atInstant { toyLocked with sync := { toyLocked.sync with pos := 5 } } = false ∧
    (∀ k ∈ [0, 89, 95, 102, 105, 111], atInstant (toyAt k) = true ∧ syncSound (toyAt k) = true) ∧
    [0, 1, 89, 90, 95, 102, 103, 105, 106, 111].map (symbolKind testRom toyProf) =
      [.header 0, .header 1, .header 89, .data 0, .data 5, .pilot 0 0, .pilot 0 1, .pilot 0 3, .data 12, .data 17] ∧
    111 + 1 = toyProf.lpl ∧ (toyAt 111).rb4 = none ∧
    ({ toyAt 111 with rb4 := some [] } : State).rb4 = some [] := by decide +kernel

/-- A sample in the middle of a frame, rotated by a quarter turn back (47_synchronizer.md R323, R338): `W_PHASE` = 2^30, the
symbol (100, -50) becomes (-50, -100). -/
theorem test_sync_rotates :
    nextSatisfies (exec (.sync 1) { toyAt 95 with
      mfq := [⟨Sample.zero, false, 0⟩]
      sync := { (toyAt 95).sync with wPhase := 0x40000000, wDph := 5, win := .ofInts 100 (-50) :: List.replicate 181 Sample.zero } })
      (fun t => t.sync.acc.getLast? == some (.ofInts (-50) (-100)) && t.sync.wPhase == 0x40000005 && t.sync.k == 96) = true := by
  decide +kernel

/-- `SINCE` wraps in its 16 bits, and the distance goes on (10_state.md R51, R23, 47_synchronizer.md R324). -/
theorem test_since_counts_on :
    nextSatisfies (exec (.sync 1) { toyAt 95 with sync := { (toyAt 95).sync with since := 65535 } })
      (fun t => t.sync.since == 0 && sinceCount t.sync == 65536) = true := by decide +kernel

end Sys2Proof.Tests
end

section
/-! PROOFS of the family 00_scope.md: what one step of the machine takes (R7), and the exact cases of rounding, saturation
and of the numeric functions of the synchronizer, with a platform's values before the defaults (R9, R11). -/

namespace Sys2Proof.Machine

open Sys2Proof.Safety

/-! ### Words and steps -/

@[simp] theorem opcodeOf_commandWord (o i : BitVec 8) (m : BitVec 16) : opcodeOf (commandWord o i m) = o :=
  Laws.WordFields.commandWord_opcode o i m

@[simp] theorem idxOf_commandWord (o i : BitVec 8) (m : BitVec 16) : idxOf (commandWord o i m) = i :=
  Laws.WordFields.commandWord_index o i m

@[simp] theorem immOf_commandWord (o i : BitVec 8) (m : BitVec 16) : immOf (commandWord o i m) = m :=
  Laws.WordFields.commandWord_imm o i m

/-! One lemma per operand format of the decoder: a word whose unused fields are 0 is accepted (30_encoding.md R100). -/

@[simp] theorem decodeN_commandWord (o : BitVec 8) (i : Instr) : decodeN (commandWord o 0#8 0#16) i = .instr i := by
  simp [decodeN]

@[simp] theorem decodeIdx_commandWord (o idx : BitVec 8) (f : BitVec 8 → Instr) :
    decodeIdx (commandWord o idx 0#16) f = .instr (f idx) := by simp [decodeIdx]

@[simp] theorem decodeImm_commandWord (o : BitVec 8) (m : BitVec 16) (f : BitVec 16 → Instr) :
    decodeImm (commandWord o 0#8 m) f = .instr (f m) := by simp [decodeImm]

/-- The decoder reads back every encoded command: the opcode field selects the command's own row, and there the operand
fields are those the encoder wrote (30_encoding.md R100, R103). -/
theorem decode_encode (i : Instr) : decode (encode i) = .instr i := by
  cases i with
  | cfgw idx imm => simp [encode, decode]
  | cfgr idx | rdstat idx => simp [encode, decode]
  | clrev imm | mfilt imm | sync imm => simp [encode, decode]
  | _ => simp [encode, decode]

theorem runCommand_of_decode {w : BitVec 32} {i : Instr} (h : decode w = .instr i) (s : State) :
    runCommand w s = exec i s := by
  simp only [runCommand, h]

theorem step_of_inputs_nil {s : State} (h : s.inputs = []) : step s = .next s := by
  simp only [step, stepOnce, h]

theorem step_of_inputs_cons {s : State} {a : AgentStep} {rest : List AgentStep} (h : s.inputs = a :: rest) :
    step s = agentStep a { s with inputs := rest } := by
  simp only [step, stepOnce, h]

theorem agentStep_command {w : BitVec 32} {i : Instr} (h : decode w = .instr i) (s : State) :
    agentStep (.command w) s = exec i s :=
  runCommand_of_decode h s

theorem withFetchWord_inputs (s : State) (w : BitVec 32) :
    (s.withFetchWord 32 w.toNat).inputs = .command w :: s.inputs := by
  have hword : BitVec.ofNat 32 (w.toNat % 2 ^ 32) = w := by
    rw [Nat.mod_eq_of_lt w.isLt, BitVec.ofNat_toNat, BitVec.setWidth_eq]
  simp only [State.withFetchWord, presentCommand, hword]

/-- Taking the placed word off again leaves the state as it was before the word was placed. -/
theorem withFetchWord_restore (s : State) (nbits w : Nat) :
    { s.withFetchWord nbits w with inputs := s.inputs } = s := rfl

theorem step_withFetchWord_encode (s : State) (i : Instr) : step (s.withFetchWord 32 (encode i).toNat) = exec i s := by
  rw [step_of_inputs_cons (withFetchWord_inputs s (encode i)), agentStep_command (decode_encode i),
    withFetchWord_restore]

/-- Settles O5: `step` by the head of `inputs`, and for a placed word that the decoder undoes the encoder. -/
theorem stepRunsNextCommand : Obligations.StepRunsNextCommand := by
  refine ⟨?command, ?agent, step_withFetchWord_encode, fun _ => step_of_inputs_nil⟩
  case command =>
    intro s w rest i hinputs hdecode
    rw [step_of_inputs_cons hinputs, agentStep_command hdecode]
  case agent => exact fun s a rest hinputs => step_of_inputs_cons hinputs

/-! ### Rounding and saturation -/

@[simp] theorem rnd_zero_bits (x : Int) : rnd x 0 = x := rfl

theorem rnd_succ (x : Int) (n : Nat) : rnd x (n + 1) = (x + 2 ^ n) / 2 ^ (n + 1) := by
  simp [rnd, Int.shiftRight_eq_div_pow]

/-- Rounding away fraction bits that are all 0 is exact. -/
theorem rnd_mul_two_pow (x : Int) (n : Nat) : rnd (x * 2 ^ n) n = x := by
  cases n with
  | zero => simp
  | succ n =>
    have hpos : (0 : Int) < 2 ^ n := by positivity
    have hhalf : (2 : Int) ^ n / 2 ^ (n + 1) = 0 :=
      Int.ediv_eq_zero_of_lt hpos.le (by rw [pow_succ]; omega)
    rw [rnd_succ, Int.add_comm, Int.add_mul_ediv_right _ _ (by positivity), hhalf, Int.zero_add]

theorem satTo_sixteen (v : Int) : satTo 16 v = max (-32767) (min 32767 v) := by
  simp [satTo, clampTo]

/-- A saturated value fits 16 signed bits, so the word that holds it reads back as the value. -/
theorem toInt_ofInt_satTo (v : Int) : (BitVec.ofInt 16 (satTo 16 v)).toInt = max (-32767) (min 32767 v) := by
  rw [satTo_sixteen, BitVec.toInt_ofInt]
  exact Int.bmod_eq_of_le (by omega) (by omega)

@[simp] theorem satSample_re_toInt (a b : Int) : (satSample a b).re.toInt = max (-32767) (min 32767 a) :=
  toInt_ofInt_satTo a

@[simp] theorem satSample_im_toInt (a b : Int) : (satSample a b).im.toInt = max (-32767) (min 32767 b) :=
  toInt_ofInt_satTo b

/-! ### The angle -/

/-- A floor shift right keeps a negative integer negative, whatever the shift. -/
theorem scaleTo28_neg {x : Int} (n : Nat) (h : x < 0) : scaleTo28 n x < 0 := by
  unfold scaleTo28
  split
  · rw [Int.shiftRight_eq_div_pow]
    exact Int.ediv_neg_of_neg_of_pos h (by positivity)
  · exact Int.mul_neg_of_neg_of_pos h (by positivity)

@[simp] theorem scaleTo28_zero (n : Nat) : scaleTo28 n 0 = 0 := by simp [scaleTo28]

theorem two_pow_bitlen_le {v : Nat} (h : v ≠ 0) : 2 ^ (bitlen v - 1) ≤ v := by
  simpa [bitlen, h] using Nat.log2_self_le h

/-- A positive integer scaled by its own length stays positive: its leading digit is not shifted out. -/
theorem scaleTo28_bitlen_pos {x : Int} (h : 0 < x) : 0 < scaleTo28 (bitlen x.natAbs) x := by
  unfold scaleTo28
  split
  · next hn =>
    have hle : 2 ^ (bitlen x.natAbs - 28) ≤ x.natAbs :=
      (Nat.pow_le_pow_right two_pos (by omega)).trans (two_pow_bitlen_le (by omega))
    rw [Int.shiftRight_eq_div_pow]
    exact Int.le_ediv_of_mul_le (by positivity) (by omega)
  · exact Int.mul_pos h (by positivity)

theorem pArg_posAxis {x : Int} (h : 0 < x) : pArg ⟨x, 0⟩ = 0 := by
  have hx := scaleTo28_bitlen_pos h
  simp [pArg, h.ne', hx.not_gt, word32]

theorem pArg_negAxis {x : Int} (h : x < 0) : pArg ⟨x, 0⟩ = 0x80000000 := by
  have hx : ∀ n, scaleTo28 n x < 0 := fun n => scaleTo28_neg n h
  simp [pArg, h.ne, hx, word32]

/-- On the diagonal the first micro-rotation, by 1/8 turn, already brings y to 0. -/
theorem argLoop_diagonal {x : Int} (h : 0 < x) : argLoop cordicAngles 0 x x 0 = 536870912 := by
  simp [argLoop, cordicAngles, h]

theorem pArg_diagonal {x : Int} (h : 0 < x) : pArg ⟨x, x⟩ = 0x20000000 := by
  have hx := scaleTo28_bitlen_pos h
  simp [pArg, h.ne', hx.not_gt, hx.ne', argLoop_diagonal hx, word32]

/-! ### The rotation -/

/-- By a whole number of quarter turns no residual angle is left, so the rotation loop does not run. -/
theorem pRot_quarterTurns (z : Cx) {q : Nat} (hq : q < 4) :
    pRot z (BitVec.ofNat 32 (q * 2 ^ 30)) = satSample (quarterTurns q z).re (quarterTurns q z).im := by
  have htheta : (BitVec.ofNat 32 (q * 2 ^ 30)).toNat = q * 2 ^ 30 := by
    rw [BitVec.toNat_ofNat]; omega
  have hturns : ((q * 2 ^ 30 + 2 ^ 29) >>> 30) % 4 = q := by
    rw [Nat.shiftRight_eq_div_pow]; omega
  have hresidual : ((q * 2 ^ 30 : Nat) : Int) - (q : Int) * 1073741824 = 0 := by omega
  have hphi : (word32 0).toInt = 0 := by decide
  simp only [pRot, htheta, hturns, hresidual, hphi, if_true]

/-! ### The interpolation -/

theorem interpAt_of_nonneg (prev cur nxt : Int) {tau : Int} (h : 0 ≤ tau) :
    interpAt prev cur nxt tau = cur + rnd ((nxt - cur) * tau) 15 := if_pos h

theorem interpAt_of_neg (prev cur nxt : Int) {tau : Int} (h : tau < 0) :
    interpAt prev cur nxt tau = cur + rnd ((prev - cur) * -tau) 15 := by
  simp [interpAt, h.not_ge]

@[simp] theorem interpAt_current (prev cur nxt : Int) : interpAt prev cur nxt 0 = cur := by
  rw [interpAt_of_nonneg _ _ _ le_rfl]
  simpa using rnd_mul_two_pow 0 15

@[simp] theorem interpAt_next (prev cur nxt : Int) : interpAt prev cur nxt 32768 = nxt := by
  rw [interpAt_of_nonneg _ _ _ (by decide), show (32768 : Int) = 2 ^ 15 from rfl, rnd_mul_two_pow]
  omega

@[simp] theorem interpAt_previous (prev cur nxt : Int) : interpAt prev cur nxt (-32768) = prev := by
  rw [interpAt_of_neg _ _ _ (by decide), show -(-32768 : Int) = 2 ^ 15 from rfl, rnd_mul_two_pow]
  omega

theorem component_pInterp (prev cur nxt : Sample) (tau : Int) (im : Bool) :
    component im (pInterp prev cur nxt tau) =
      max (-32767) (min 32767 (interpAt (component im prev) (component im cur) (component im nxt) tau)) := by
  cases im <;> simp [component, pInterp]

theorem interpAt_eq_ediv (prev cur nxt tau : Int) :
    interpAt prev cur nxt tau = cur +
      (if 0 ≤ tau then ((nxt - cur) * tau + 16384) / 32768 else ((prev - cur) * -tau + 16384) / 32768) := by
  split
  · next h => rw [interpAt_of_nonneg _ _ _ h, rnd_succ]; rfl
  · next h => rw [interpAt_of_neg _ _ _ (not_le.1 h), rnd_succ]; rfl

/-! ### The platform's values -/

section
variable {α β : Type} [BEq α] {rows : FunctionRows α β} {x : α}

theorem platformOr_of_none (h : rows.lookup x = none) (d : β) : platformOr rows x d = d := by
  simp [platformOr, h]

theorem platformOr_of_some {v : β} (h : rows.lookup x = some v) (d : β) : platformOr rows x d = v := by
  simp [platformOr, h]

end

/-- Settles O50, from the exact cases of each default function and the two cases of `platformOr`. -/
theorem numericFunctionsExact : Obligations.NumericFunctionsExact := by
  refine ⟨?arg, ?rot, ?interpEnds, ?interp, rnd_succ, fun a b => ⟨satSample_re_toInt a b, satSample_im_toInt a b⟩,
    ?romArg, ?romRot, ?romInterp, ?romCloop, ?romTloop⟩
  case arg => exact fun x h => ⟨pArg_posAxis h, pArg_negAxis (by omega), pArg_diagonal h⟩
  case rot =>
    exact fun z => ⟨pRot_quarterTurns z (q := 0) (by decide), pRot_quarterTurns z (q := 1) (by decide),
      pRot_quarterTurns z (q := 2) (by decide), pRot_quarterTurns z (q := 3) (by decide)⟩
  case interpEnds =>
    intro prev cur nxt
    simp only [pInterp, interpAt_current, interpAt_next, interpAt_previous, and_self]
  case interp => intro prev cur nxt tau im; rw [component_pInterp, interpAt_eq_ediv]
  case romArg => exact fun rom z => ⟨fun h => platformOr_of_none h _, fun v h => platformOr_of_some h _⟩
  case romRot => exact fun rom z a => ⟨fun h => platformOr_of_none h _, fun v h => platformOr_of_some h _⟩
  case romInterp => exact fun rom a b c u => ⟨fun h => platformOr_of_none h _, fun v h => platformOr_of_some h _⟩
  case romCloop => exact fun rom g c n ph d v h => platformOr_of_some h _
  case romTloop => exact fun rom g c e l w v h => platformOr_of_some h _

end Sys2Proof.Machine
end

section
/-! PROOFS of the family 10_state.md, the layer they share: what a command and an agent step can do to the state, said once,
and what one atomic update of SYNC can do. -/

namespace Sys2Proof.Machine

open Sys2Proof.Safety

/-! ### What a command can do -/

/-- `Effect s i t`: the command `i` can take `s` to `t`, its response record apart. Each constructor carries the guards under
which its branch runs. -/
inductive Effect (s : State) : Instr → State → Prop
  /-- BUSY, or a command that only reads. -/
  | unchanged (i : Instr) : Effect s i s
  | illegal (i : Instr) (c : IllegalCause) : Effect s i (raiseExc (.illegalCommand c) s)
  | reset : Effect s .reset (resetCore s)
  | cfgw {idx : BitVec 8} {v : BitVec 16} (hidle : s.session = .idle) (hidx : idx.toNat ≤ 13) :
      Effect s (.cfgw idx v) (cfgWrite idx.toNat v s)
  | startFails {c : ConfigCause} (hidle : s.session = .idle) (hcheck : startCheck s = .error c) :
      Effect s .start (raiseExc (.configurationError c) s)
  | start {r : ProfileRow} {taps : List Int} (hidle : s.session = .idle) (hcheck : startCheck s = .ok (r, taps)) :
      Effect s .start (beginSession (latchProfile s r taps) s)
  | stop : Effect s .stop (stopSession s)
  | clrev {mask : BitVec 16} : Effect s (.clrev mask) (acknowledge mask s)
  | ldbbFails {p : Prof} {c : List Byte} {rest : List (List Byte)} (e : ChunkCause) (hp : s.session = .active p)
      (hout : s.tb0 = none) (hin : s.bbin = c :: rest) (hlen : c.length ≠ p.chunkBytes) :
      Effect s .ldbb (raiseExc (.txChunkError e) { s with bbin := rest })
  | ldbb {p : Prof} {c : List Byte} {rest : List (List Byte)} (hp : s.session = .active p) (hout : s.tb0 = none)
      (hin : s.bbin = c :: rest) (hlen : c.length = p.chunkBytes) :
      Effect s .ldbb { s with bbin := rest, tb0 := some (bitsOfBytes c) }
  | bchenc {p : Prof} {u : List Bool} (hp : s.session = .active p) (hin : s.tb0 = some u) (hout : s.tb1 = none) :
      Effect s .bchenc { s with tb0 := none, tb1 := some (bchEncode (p.row.m * p.row.t) (profGenerator s.rom p) u) }
  | ldpcenc {p : Prof} {u : List Bool} (hp : s.session = .active p) (hin : s.tb1 = some u) (hout : s.tb2 = none) :
      Effect s .ldpcenc { s with tb1 := none, tb2 := some (u ++ ldpcParity (profLdpc s.rom p) u) }
  | ilv {p : Prof} {x : List Bool} (hp : s.session = .active p) (hin : s.tb2 = some x) (hout : s.tb3 = none) :
      Effect s .ilv { s with tb2 := none, tb3 := some (interleave (ilvOf s.rom p.row) (Config.freeBit x) x) }
  | map {p : Prof} {b : List Bool} (hp : s.session = .active p) (hin : s.tb3 = some b) (hout : s.tb4 = none) :
      Effect s .map
        { s with tb3 := none, tb4 := some (mapFrame (pointsOf s.rom p.row.order p.row.rate) p.row.eta p.nsym b) }
  | plfrm {p : Prof} {d : List Sample} (hp : s.session = .active p) (hin : s.tb4 = some d) (hout : s.tb5 = none) :
      Effect s .plfrm { s with tb4 := none, tb5 := some (plFrame s.rom p d) }
  | shape {p : Prof} {f : List Sample} (hp : s.session = .active p) (hin : s.tb5 = some f)
      (hroom : s.txq.length + p.lpl * p.sps ≤ s.rom.txqDepth) :
      Effect s .shape { s with
        tb5 := none, txq := s.txq ++ (shapeFrame p.taps p.sps p.span f s.txdl).1
        txdl := (shapeFrame p.taps p.sps p.span f s.txdl).2 }
  | mfilt {p : Prof} {n : BitVec 16} (hp : s.session = .active p) (hn : n.toNat ≠ 0) (hhave : n.toNat ≤ s.rxq.length)
      (hroom : s.mfq.length + n.toNat ≤ s.rom.rxqDepth) :
      Effect s (.mfilt n) { s with
        rxq := s.rxq.drop n.toNat
        mfq := s.mfq ++ (mfiltRun p.taps (tapCount p.sps p.span - 1) (s.rxq.take n.toNat) s.rxdl).1
        rxdl := (mfiltRun p.taps (tapCount p.sps p.span - 1) (s.rxq.take n.toNat) s.rxdl).2 }
  | sync {p : Prof} {n : BitVec 16} (hp : s.session = .active p) (hn : n.toNat ≠ 0) :
      Effect s (.sync n) (syncLoop (profHeader s.rom p) p n.toNat (syncBegin s)).st
  | demap {p : Prof} {y : List Sample} (hp : s.session = .active p) (hin : s.rb4 = some y) (hout : s.rb3 = none) :
      Effect s .demap { s with rb4 := none, rb3 := some (demapFrame (pointsOf s.rom p.row.order p.row.rate) p y) }
  | deilv {p : Prof} {y : List Llr} (hp : s.session = .active p) (hin : s.rb3 = some y) (hout : s.rb2 = none) :
      Effect s .deilv { s with rb3 := none, rb2 := some (deinterleave (ilvOf s.rom p.row) (Config.freeLlr y) y) }
  | ldpcdec {p : Prof} {l : List Llr} {d : LdpcResult} (hp : s.session = .active p) (hin : s.rb2 = some l)
      (hout : s.rb1 = none) (hdec : ldpcDecode (profLdpc s.rom p) p.llrmax p.maxiter l = d) :
      Effect s .ldpcdec { s with
        rb2 := none
        rb1 := some ⟨d.word.take p.row.kldpc, !d.converged⟩
        ldpcIter := BitVec.ofNat 32 d.iterations
        cntLdpcfail := bumpIf (!d.converged) s.cntLdpcfail
        event := if d.converged then s.event else withEvent .ldpcfail s.event }
  | bchdec {p : Prof} {y : TaggedFrame} {c : List Bool} {e : Nat} (hp : s.session = .active p) (hin : s.rb1 = some y)
      (hout : s.rb0 = none) (hdec : bchDecode (profField s.rom p) p.row.t y.bits = some (c, e)) :
      Effect s .bchdec { s with rb1 := none, rb0 := some (c.take p.row.kbch), bchErrcnt := BitVec.ofNat 32 e }
  | bchdecFails {p : Prof} {y : TaggedFrame} (hp : s.session = .active p) (hin : s.rb1 = some y) (hout : s.rb0 = none)
      (hdec : bchDecode (profField s.rom p) p.row.t y.bits = none) :
      Effect s .bchdec (raiseExc .uncorrectableFrame { s with rb1 := none, bchErrcnt := 0xFFFFFFFF })
  | stbb {p : Prof} {b : List Bool} (hp : s.session = .active p) (hin : s.rb0 = some b) (hout : s.bboutReady = true) :
      Effect s .stbb { s with rb0 := none, bbout := s.bbout ++ [bytesOfBits p.chunkBytes b] }

/-- The outcome `r` is a next state with one more response record, after an effect of the command `i`. -/
def Answers (s : State) (i : Instr) (r : StepResult) : Prop :=
  ∃ status value t, r = .next (respond status value t) ∧ Effect s i t

section
variable {s t : State} {i : Instr}

theorem answers_ok (h : Effect s i t) (v : BitVec 32) : Answers s i (respondOk v t) := ⟨_, _, t, rfl, h⟩

theorem answers_busy : Answers s i (respondBusy s) := ⟨_, _, s, rfl, .unchanged i⟩

theorem answers_fail {e : Exc} (h : Effect s i (raiseExc e t)) : Answers s i (failWith e t) := ⟨_, _, _, rfl, h⟩

theorem answers_whenActive {f : Prof → StepResult} (h : ∀ p, s.session = .active p → Answers s i (f p)) :
    Answers s i (whenActive s f) := by
  obtain ⟨-, e⟩ | ⟨p, hp, e⟩ := whenActive_cases s f
  · rw [e]; exact answers_fail (.illegal i _)
  · rw [e]; exact h p hp

theorem answers_whenIdle {r : StepResult} (h : s.session = .idle → Answers s i r) : Answers s i (whenIdle s r) := by
  obtain ⟨hidle, e⟩ | ⟨p, -, e⟩ := whenIdle_cases s r
  · rw [e]; exact h hidle
  · rw [e]; exact answers_fail (.illegal i _)

theorem answers_whenIndex {idx : BitVec 8} {last : Nat} {r : StepResult} (h : idx.toNat ≤ last → Answers s i r) :
    Answers s i (whenIndex idx last s r) := by
  by_cases hidx : idx.toNat ≤ last
  · rw [whenIndex_le hidx]; exact h hidx
  · rw [whenIndex_gt (not_le.1 hidx)]; exact answers_fail (.illegal i _)

theorem answers_whenCount {n : BitVec 16} {r : StepResult} (h : n.toNat ≠ 0 → Answers s i r) : Answers s i (whenCount n s r) := by
  by_cases hn : n.toNat = 0
  · rw [whenCount_zero hn]; exact answers_fail (.illegal i _)
  · rw [whenCount_ne hn]; exact h hn

end

theorem execStart_answers (s : State) : Answers s .start (execStart s) := by
  refine answers_whenIdle fun hidle => ?_
  split
  · next c hcheck => exact answers_fail (.startFails hidle hcheck)
  · next r taps hcheck => exact answers_ok (.start hidle hcheck) _

theorem execLdbb_answers (s : State) : Answers s .ldbb (execLdbb s) := by
  refine answers_whenActive fun p hp => ?_
  split
  · next c rest hout hin =>
    split
    · exact answers_fail (.ldbbFails _ hp hout hin (by omega))
    · split
      · exact answers_fail (.ldbbFails _ hp hout hin (by omega))
      · exact answers_ok (.ldbb hp hout hin (by omega)) _
  · exact answers_busy

theorem execShape_answers (s : State) : Answers s .shape (execShape s) := by
  refine answers_whenActive fun p hp => ?_
  split
  · next f hin =>
    split
    · next hroom => exact answers_ok (.shape hp hin hroom) _
    · exact answers_busy
  · exact answers_busy

theorem execMfilt_answers (n : BitVec 16) (s : State) : Answers s (.mfilt n) (execMfilt n s) := by
  refine answers_whenCount fun hn => answers_whenActive fun p hp => ?_
  split
  · next h => exact answers_ok (.mfilt hp hn h.1 h.2) _
  · exact answers_busy

theorem execBchdec_answers (s : State) : Answers s .bchdec (execBchdec s) := by
  refine answers_whenActive fun p hp => ?_
  split
  · next y hin hout =>
    split
    · next c e hdec => exact answers_ok (.bchdec hp hin hout hdec) _
    · next hdec => exact answers_fail (.bchdecFails hp hin hout hdec)
  · exact answers_busy

/-- Every command answers a next state with one more response record, and an effect of that command. -/
theorem exec_answers (i : Instr) (s : State) : Answers s i (exec i s) := by
  cases i with
  | reset => exact answers_ok .reset _
  | cfgw idx imm => exact answers_whenIndex fun hidx => answers_whenIdle fun hidle => answers_ok (.cfgw hidle hidx) _
  | cfgr idx => exact answers_whenIndex fun _ => answers_ok (.unchanged _) _
  | start => exact execStart_answers s
  | stop => exact answers_ok .stop _
  | rdstat idx => exact answers_whenIndex fun _ => answers_ok (.unchanged _) _
  | clrev mask => exact answers_ok .clrev _
  | ldbb => exact execLdbb_answers s
  | bchenc =>
    refine answers_whenActive fun p hp => ?_
    split
    · next u hin hout => exact answers_ok (.bchenc hp hin hout) _
    · exact answers_busy
  | ldpcenc =>
    refine answers_whenActive fun p hp => ?_
    split
    · next u hin hout => exact answers_ok (.ldpcenc hp hin hout) _
    · exact answers_busy
  | ilv =>
    refine answers_whenActive fun p hp => ?_
    split
    · next x hin hout => exact answers_ok (.ilv hp hin hout) _
    · exact answers_busy
  | map =>
    refine answers_whenActive fun p hp => ?_
    split
    · next b hin hout => exact answers_ok (.map hp hin hout) _
    · exact answers_busy
  | plfrm =>
    refine answers_whenActive fun p hp => ?_
    split
    · next d hin hout => exact answers_ok (.plfrm hp hin hout) _
    · exact answers_busy
  | shape => exact execShape_answers s
  | mfilt n => exact execMfilt_answers n s
  | sync n => exact answers_whenCount fun hn => answers_whenActive fun p hp => answers_ok (.sync hp hn) _
  | demap =>
    refine answers_whenActive fun p hp => ?_
    split
    · next y hin hout => exact answers_ok (.demap hp hin hout) _
    · exact answers_busy
  | deilv =>
    refine answers_whenActive fun p hp => ?_
    split
    · next y hin hout => exact answers_ok (.deilv hp hin hout) _
    · exact answers_busy
  | ldpcdec =>
    refine answers_whenActive fun p hp => ?_
    split
    · next l hin hout => exact answers_ok (.ldpcdec hp hin hout rfl) _
    · exact answers_busy
  | bchdec => exact execBchdec_answers s
  | stbb =>
    refine answers_whenActive fun p hp => ?_
    split
    · next b hin hout => exact answers_ok (.stbb hp hin hout) _
    · exact answers_busy

/-! ### What a step of an agent can do -/

/-- `AgentEffect s a t`: the agent step `a` can take `s` to `t`. -/
inductive AgentEffect (s : State) : AgentStep → State → Prop
  | command {w : BitVec 32} {i : Instr} {t : State} {status : BitVec 8} {value : BitVec 32} (hword : decode w = .instr i)
      (heffect : Effect s i t) : AgentEffect s (.command w) (respond status value t)
  | illegalWord {w : BitVec 32} {c : IllegalCause} {status : BitVec 8} {value : BitVec 32} (hword : ∀ i, decode w ≠ .instr i) :
      AgentEffect s (.command w) (respond status value (raiseExc (.illegalCommand c) s))
  | stopSignal : AgentEffect s .stopSignal (stopSession s)
  | hardwareReset : AgentEffect s .hardwareReset (resetCore s)
  | offerChunk {c : List Byte} : AgentEffect s (.offerChunk c) { s with bbin := s.bbin ++ [c] }
  | bboutReady {ready : Bool} : AgentEffect s (.bboutReady ready) { s with bboutReady := ready }
  | popIdle (hidle : s.session = .idle) : AgentEffect s .radioPop s
  | underrun (hq : s.txq = []) : AgentEffect s .radioPop (raiseExc .streamUnderrun s)
  | pop {x : Sample} {rest : List Sample} (hq : s.txq = x :: rest) :
      AgentEffect s .radioPop { s with txq := rest, radioTx := s.radioTx ++ [x] }
  | pushIdle {x : Sample} (hidle : s.session = .idle) : AgentEffect s (.radioPush x) s
  | overrun {x : Sample} (hfull : s.rom.rxqDepth ≤ s.rxq.length) :
      AgentEffect s (.radioPush x) { raiseExc .streamOverrun s with gap := true, gapLen := satInc s.gapLen }
  | push {x : Sample} (hroom : s.rxq.length < s.rom.rxqDepth) :
      AgentEffect s (.radioPush x) { s with rxq := s.rxq ++ [⟨x, s.gap, s.gapLen⟩], gap := false, gapLen := 0 }

theorem runCommand_effect (w : BitVec 32) (s : State) : ∃ t, runCommand w s = .next t ∧ AgentEffect s (.command w) t := by
  cases hword : decode w with
  | instr i =>
    obtain ⟨status, value, t, hexec, heffect⟩ := exec_answers i s
    exact ⟨_, (runCommand_of_decode hword s).trans hexec, .command hword heffect⟩
  | reservedOpcode =>
    exact ⟨_, by simp only [runCommand, hword]; exact failWith_eq _ s, .illegalWord (by simp [hword])⟩
  | reservedField =>
    exact ⟨_, by simp only [runCommand, hword]; exact failWith_eq _ s, .illegalWord (by simp [hword])⟩

theorem radioPop_effect (s : State) : AgentEffect s .radioPop (radioPop s) := by
  unfold radioPop
  split
  · next hidle => exact .popIdle hidle
  · split
    · next hq => exact .underrun hq
    · next x rest hq => exact .pop hq

theorem radioPush_effect (x : Sample) (s : State) : AgentEffect s (.radioPush x) (radioPush x s) := by
  unfold radioPush
  split
  · next hidle => exact .pushIdle hidle
  · split
    · next hfull => exact .overrun hfull
    · next hroom => exact .push (not_le.1 hroom)

/-- Every step of every agent answers a next state, after an effect of that step. -/
theorem agentStep_effect (a : AgentStep) (s : State) : ∃ t, agentStep a s = .next t ∧ AgentEffect s a t := by
  cases a with
  | command w => exact runCommand_effect w s
  | stopSignal => exact ⟨_, rfl, .stopSignal⟩
  | hardwareReset => exact ⟨_, rfl, .hardwareReset⟩
  | offerChunk c => exact ⟨_, rfl, .offerChunk⟩
  | bboutReady ready => exact ⟨_, rfl, .bboutReady⟩
  | radioPop => exact ⟨_, rfl, radioPop_effect s⟩
  | radioPush x => exact ⟨_, rfl, radioPush_effect x s⟩

/-- An invariant that does not look at the pending steps and that every agent step keeps is kept by every step. -/
theorem step_keeps {I : State → Prop} (hinputs : ∀ s rest, I s → I { s with inputs := rest })
    (hagent : ∀ s a t, I s → AgentEffect s a t → I t) {s : State} (hs : I s) : ∃ t, step s = .next t ∧ I t := by
  cases hin : s.inputs with
  | nil => exact ⟨s, step_of_inputs_nil hin, hs⟩
  | cons a rest =>
    obtain ⟨t, hstep, heffect⟩ := agentStep_effect a { s with inputs := rest }
    exact ⟨t, (step_of_inputs_cons hin).trans hstep, hagent _ a t (hinputs s rest hs) heffect⟩

/-! ### What SYNC can do to the synchronization state -/

/-- The loops may have moved phase, timing and counts between `y` and `y'`; the symbols taken are the same. -/
structure SameSymbols (y y' : SyncState) : Prop where
  mode : y'.mode = y.mode
  k : y'.k = y.k
  win : y'.win = y.win
  acc : y'.acc = y.acc

/-- A search step leaves the run as it is, or locks at the end of a header, with no data symbol taken yet. -/
theorem searchStep_cases (hdr : List Sample) (p : Prof) (e : Nat) (r : SyncRun) :
    searchStep hdr p e r = r ∨ ∃ y : SyncState, y.k = r.st.rom.hdrLen ∧ y.acc = [] ∧ y.win = r.st.sync.win ∧
      searchStep hdr p e r =
        { r with st := { r.st with sync := y, event := withEvent .lock r.st.event }, locked := true } := by
  unfold searchStep
  split
  · exact .inl rfl
  · dsimp only
    split
    · refine .inr ⟨_, ?_, ?_, ?_, rfl⟩ <;> rfl
    · exact .inl rfl

theorem slipTest_sameSymbols (t : Int) (y : SyncState) : SameSymbols y (slipTest t y) := by
  unfold slipTest
  split
  · exact ⟨rfl, rfl, rfl, rfl⟩
  · split
    · exact ⟨rfl, rfl, rfl, rfl⟩
    · exact ⟨rfl, rfl, rfl, rfl⟩

theorem updateLoops_sameSymbols (rom : Rom) (p : Prof) (header : Bool) (y : SyncState) :
    SameSymbols y (updateLoops rom p header y) := by
  obtain ⟨hmode, hk, hwin, hacc⟩ := slipTest_sameSymbols
    (if header then romTloop rom p.tloop y.cAcc y.eAcc y.lAcc y.wTiming.toInt else y.wTiming.toInt)
    { y with
      wPhase := (romCloop rom p.cloop y.cAcc (sinceCount y) y.wPhase y.wDph).1
      wDph := (romCloop rom p.cloop y.cAcc (sinceCount y) y.wPhase y.wDph).2 }
  exact ⟨hmode, hk, hwin, hacc⟩

theorem modifySync_eq_const (f : SyncState → SyncState) (r : SyncRun) :
    modifySync f r = modifySync (fun _ => f r.st.sync) r := rfl

/-- The end of a known block is a synchronization loss, or it leaves the symbols taken as they are. -/
theorem blockEnd_cases (p : Prof) (kd : SymbolKind) (r : SyncRun) :
    blockEnd p kd r = (syncLoss p r, true) ∨
      ∃ y, SameSymbols r.st.sync y ∧ blockEnd p kd r = (modifySync (fun _ => y) r, false) := by
  cases kd with
  | header n =>
    unfold blockEnd headerEnd
    dsimp only
    split
    · split
      · exact .inl rfl
      · refine .inr ⟨_, ?_, congrArg (·, false) (modifySync_eq_const _ r)⟩
        exact ⟨rfl, rfl, rfl, rfl⟩
    · obtain ⟨hmode, hk, hwin, hacc⟩ := updateLoops_sameSymbols r.st.rom p true { r.st.sync with miss := 0 }
      exact .inr ⟨_, ⟨hmode, hk, hwin, hacc⟩, congrArg (·, false) (modifySync_eq_const _ r)⟩
  | data n => exact .inr ⟨r.st.sync, ⟨rfl, rfl, rfl, rfl⟩, rfl⟩
  | pilot b n =>
    exact .inr ⟨_, updateLoops_sameSymbols r.st.rom p false r.st.sync, congrArg (·, false) (modifySync_eq_const _ r)⟩

/-- The same of a symbol instant, where a block's end may stand or not. -/
theorem symbolEnd_cases (atEnd : Bool) (p : Prof) (kd : SymbolKind) (r : SyncRun) :
    (if atEnd then blockEnd p kd r else (r, false)) = (syncLoss p r, true) ∨
      ∃ y, SameSymbols r.st.sync y ∧
        (if atEnd then blockEnd p kd r else (r, false)) = (modifySync (fun _ => y) r, false) := by
  cases atEnd with
  | true => exact blockEnd_cases p kd r
  | false => exact .inr ⟨r.st.sync, ⟨rfl, rfl, rfl, rfl⟩, rfl⟩

/-- `LockedEffect hdr p r r'`: a sample taken while LOCKED can take the run `r` to `r'`. -/
inductive LockedEffect (hdr : List Sample) (p : Prof) (r : SyncRun) : SyncRun → Prop
  /-- Away from the symbol instant. -/
  | wait : LockedEffect hdr p r r
  /-- A synchronization loss at the end of a header block. -/
  | loss {y : SyncState} (hy : SameSymbols (takeSymbol r.st.rom hdr p r.st.sync) y) :
      LockedEffect hdr p r (syncLoss p (modifySync (fun _ => y) r))
  /-- A symbol before the last of its frame. -/
  | symbol {y : SyncState} (hy : SameSymbols (takeSymbol r.st.rom hdr p r.st.sync) y) :
      LockedEffect hdr p r (modifySync (fun _ => y) r)
  | close {y : SyncState} (hy : SameSymbols (takeSymbol r.st.rom hdr p r.st.sync) y) (hk : y.k = p.lpl) :
      LockedEffect hdr p r (frameClose p (modifySync (fun _ => y) r))

theorem lockedStep_effect (hdr : List Sample) (p : Prof) (e : Nat) (r : SyncRun) :
    LockedEffect hdr p r (lockedStep hdr p e r) := by
  unfold lockedStep
  dsimp only
  split
  · exact .wait
  · obtain hloss | ⟨y, hy, hend⟩ := symbolEnd_cases
      (atBlockEnd r.st.rom p (symbolKind r.st.rom p r.st.sync.k) (r.st.sync.k + 1)) p
      (symbolKind r.st.rom p r.st.sync.k) (modifySync (takeSymbol r.st.rom hdr p) r)
    · rw [hloss]
      exact .loss ⟨rfl, rfl, rfl, rfl⟩
    · rw [hend]
      dsimp only
      split
      · contradiction
      · split
        · next hk => exact .close hy hk
        · exact .symbol hy

/-- What holds after the run has taken a sample: `I` before its search step or its locked step, `J` after it. -/
theorem consumeSample_keeps {hdr : List Sample} {p : Prof} {I J : SyncRun → Prop} (hgap : ∀ r, I r → I (gapAction p r))
    (hwindow : ∀ r x, I r → I (modifySync (windowIn x) r)) (hsearch : ∀ r e, I r → J (searchStep hdr p e r))
    (hlocked : ∀ r r', I r → r.st.sync.mode = .locked → LockedEffect hdr p r r' → J r')
    {x : TaggedSample} {rest : List TaggedSample} {r : SyncRun}
    (htake : I { r with st := { r.st with mfq := rest }, consumed := r.consumed + 1 }) :
    J (consumeSample hdr p x rest r) := by
  have hsample : ∀ r1, I r1 → J (sampleStep hdr p x.sample r1) := by
    intro r1 h1
    have h2 := hwindow r1 x.sample h1
    unfold sampleStep
    split
    · exact hsearch _ _ h2
    · next hmode => exact hlocked _ _ h2 hmode (lockedStep_effect ..)
  unfold consumeSample
  dsimp only
  split
  · exact hsample _ (hgap _ htake)
  · exact hsample _ htake

/-- What every sample keeps, the whole loop of SYNC keeps; a sample is taken only while no frame has been delivered. -/
theorem syncLoop_keeps {hdr : List Sample} {p : Prof} {J : SyncRun → Prop}
    (hsample : ∀ r x rest, J r → r.frame = false → r.st.mfq = x :: rest → J (consumeSample hdr p x rest r)) (n : Nat)
    {r : SyncRun} (hr : J r) (hframe : r.frame = false) : J (syncLoop hdr p n r) := by
  induction n generalizing r with
  | zero => exact hr
  | succ n ih =>
    unfold syncLoop
    split
    · exact hr
    · next x rest hq =>
      dsimp only
      split
      · exact hsample r x rest hr hframe hq
      · next hnone => exact ih (hsample r x rest hr hframe hq) (Bool.eq_false_iff.2 hnone)

/-! ### What SYNC can do to the state, as a chain of atomic updates -/

/-- One atomic update of the state inside SYNC. -/
inductive SyncMove (s : State) : State → Prop
  | sync (y : SyncState) : SyncMove s (withSync y s)
  | take {x : TaggedSample} {rest : List TaggedSample} (hq : s.mfq = x :: rest) : SyncMove s { s with mfq := rest }
  | dropFrame : SyncMove s (countDropped s)
  | loss : SyncMove s (raiseExc .synchronizationLoss s)
  | lock (y : SyncState) : SyncMove s { s with sync := y, event := withEvent .lock s.event }
  | deliver (f : List Sample) (y : SyncState) : SyncMove s { s with rb4 := some f, sync := y }

/-- A chain of atomic updates of SYNC. -/
abbrev SyncMoves : State → State → Prop := Relation.ReflTransGen SyncMove

theorem modifySync_moves (f : SyncState → SyncState) (r : SyncRun) : SyncMoves r.st (modifySync f r).st :=
  .single (.sync _)

theorem gapAction_moves (p : Prof) (r : SyncRun) : SyncMoves r.st (gapAction p r).st := by
  unfold gapAction
  split
  · exact .head .dropFrame (modifySync_moves _ { r with st := countDropped r.st, dropped := true })
  · exact modifySync_moves _ r

theorem searchStep_moves (hdr : List Sample) (p : Prof) (e : Nat) (r : SyncRun) :
    SyncMoves r.st (searchStep hdr p e r).st := by
  obtain h | ⟨y, -, -, -, h⟩ := searchStep_cases hdr p e r
  · rw [h]
  · rw [h]; exact .single (.lock y)

theorem syncLoss_moves (p : Prof) (r : SyncRun) : SyncMoves r.st (syncLoss p r).st :=
  .head .loss (modifySync_moves _ { r with st := raiseExc .synchronizationLoss r.st, lost := true })

theorem frameClose_moves (p : Prof) (r : SyncRun) : SyncMoves r.st (frameClose p r).st := by
  unfold frameClose
  dsimp only
  split
  · exact .head .dropFrame (.single (.sync _))
  · exact .single (.deliver _ _)

theorem LockedEffect.moves {hdr : List Sample} {p : Prof} {r r' : SyncRun} (h : LockedEffect hdr p r r') :
    SyncMoves r.st r'.st := by
  cases h with
  | wait => exact .refl
  | loss _ => exact (modifySync_moves _ r).trans (syncLoss_moves p _)
  | symbol _ => exact modifySync_moves _ r
  | close _ _ => exact (modifySync_moves _ r).trans (frameClose_moves p _)

/-- The whole loop of SYNC is a chain of atomic updates. -/
theorem syncLoop_moves (hdr : List Sample) (p : Prof) (n : Nat) (s : State) :
    SyncMoves s (syncLoop hdr p n (syncBegin s)).st := by
  refine syncLoop_keeps (J := fun r => SyncMoves s r.st) (fun r x rest h _ hq => ?sample) n .refl rfl
  case sample =>
    exact consumeSample_keeps (I := fun r => SyncMoves s r.st) (fun r h => h.trans (gapAction_moves p r))
      (fun r x h => h.trans (modifySync_moves _ r)) (fun r e h => h.trans (searchStep_moves hdr p e r))
      (fun r r' h _ heffect => h.trans heffect.moves) (h.tail (.take hq))

/-- A reflexive and transitive relation that holds of every atomic update of SYNC holds of the whole command. -/
theorem syncLoop_related {R : State → State → Prop} (hrefl : ∀ s, R s s) (htrans : ∀ s t u, R s t → R t u → R s u)
    (hmove : ∀ s t, SyncMove s t → R s t) (hdr : List Sample) (p : Prof) (n : Nat) (s : State) :
    R s (syncLoop hdr p n (syncBegin s)).st := by
  have hmoves := syncLoop_moves hdr p n s
  generalize (syncLoop hdr p n (syncBegin s)).st = t at hmoves ⊢
  induction hmoves with
  | refl => exact hrefl s
  | tail _ hlast ih => exact htrans _ _ _ ih (hmove _ _ hlast)

end Sys2Proof.Machine
end

section
/-! PROOFS of the family 10_state.md: the session and the transmit chain's frames (R21, R36, R41, R48). -/

namespace Sys2Proof.Machine

open Sys2Proof.Safety

/-! ### What a sound profile says -/

/-- The sizes of a profile START accepts: the conditions of 10_state.md R37 and what START derives from them. -/
structure ProfileSizes (rom : Rom) (p : Prof) : Prop where
  kbch_mod : p.row.kbch % 8 = 0
  nbch_eq : p.row.nbch = p.row.kbch + p.row.m * p.row.t
  kldpc_eq : p.row.kldpc = p.row.nbch
  kldpc_lt : p.row.kldpc < p.row.nldpc
  nldpc_mod : p.row.nldpc % p.row.eta = 0
  slotLen_pos : 0 < rom.slotLen
  nsym_mod : nsymOf p.row % rom.slotLen = 0
  sps_ge : 2 ≤ p.sps
  lpl_eq : p.lpl = plLength rom p.row p.pilots
  nsym_eq : p.nsym = nsymOf p.row
  chunkBytes_eq : p.chunkBytes = p.row.kbch / 8

/-- A record that `P_PROFILE` answers is well formed and stands at the index that was looked up. -/
theorem profileLookup_some {rom : Rom} {modcod : Nat} {short : Bool} {r : ProfileRow}
    (h : profileLookup rom modcod short = some r) :
    rowWellFormed rom r = true ∧ r.modcod = modcod ∧ r.short = short := by
  unfold profileLookup at h
  split at h
  · contradiction
  · split at h
    · contradiction
    · next r' hfind =>
      have hindex := List.find?_some hfind
      split at h
      · next hok =>
        obtain rfl := Option.some.inj h
        simp only [Bool.and_eq_true, beq_iff_eq] at hindex hok
        exact ⟨hok.1, hindex⟩
      · contradiction

theorem profileSizes_of_sound {rom : Rom} {p : Prof} (h : profileSound rom p = true) : ProfileSizes rom p := by
  simp only [profileSound, Bool.and_eq_true, decide_eq_true_eq, beq_iff_eq, and_assoc] at h
  obtain ⟨hrow, -, -, -, hsps, -, -, -, -, -, -, -, -, -, -, -, -, -, -, hlpl, hnsym, hchunk⟩ := h
  obtain ⟨hwell, -, -⟩ := profileLookup_some hrow
  simp only [rowWellFormed, Bool.and_eq_true, decide_eq_true_eq, and_assoc] at hwell
  obtain ⟨-, -, -, hkbch, hnbch, -, hkldpc, hlt, hnldpc, hslot, hmod, -⟩ := hwell
  exact ⟨hkbch, hnbch, hkldpc, hlt, hnldpc, hslot, hmod, hsps, hlpl, hnsym, hchunk⟩

/-! ### The session -/

theorem sessionSound_active {s : State} {p : Prof} (h : s.session = .active p) :
    sessionSound s = true ↔
      profileSound s.rom p = true ∧ s.stChunk = BitVec.ofNat 32 p.chunkBytes ∧ s.stPllen = BitVec.ofNat 32 p.lpl := by
  simp [sessionSound, h, and_assoc]

theorem profileSizes_of_active {s : State} {p : Prof} (hs : sessionSound s = true) (hp : s.session = .active p) :
    ProfileSizes s.rom p :=
  profileSizes_of_sound ((sessionSound_active hp).1 hs).1

theorem cfgField_lt (s : State) (i hi lo : Nat) : cfgField s i hi lo < 2 ^ (hi - lo + 1) := Nat.mod_lt _ (by positivity)

/-- What START has checked when it answers a record and taps (40_session_control.md R134). -/
theorem startCheck_ok {s : State} {r : ProfileRow} {taps : List Int} (h : startCheck s = .ok (r, taps)) :
    profileLookup s.rom (cfgModcod s) (cfgShort s) = some r ∧
    rrcLookup s.rom (cfgAlpha s) (cfgSps s) (cfgSpan s) = some taps ∧ (1 ≤ cfgAlpha s ∧ cfgAlpha s ≤ 100) ∧
    (2 ≤ cfgSps s ∧ cfgSps s ≤ s.rom.spsMax) ∧ (2 ≤ cfgSpan s ∧ cfgSpan s ≤ s.rom.spanMax) ∧ 1 ≤ (cfgRead s 4).toNat ∧
    (1 ≤ (cfgRead s 5).toNat ∧ (cfgRead s 5).toNat ≤ 127 ∧ 1 ≤ (cfgRead s 6).toNat ∧ cfgLlrshift s ≤ 47) ∧
    1 ≤ (cfgRead s 11).toNat := by
  unfold startCheck at h
  split at h
  · contradiction
  split at h
  · contradiction
  next r' hrow =>
  split at h
  · contradiction
  next halpha =>
  split at h
  · contradiction
  next hsps =>
  split at h
  · contradiction
  next hspan =>
  split at h
  · contradiction
  next taps' htaps =>
  split at h
  · contradiction
  next hmaxiter =>
  split at h
  · contradiction
  next hllr =>
  split at h
  · contradiction
  next hmiss =>
  obtain ⟨rfl, rfl⟩ := Prod.mk.inj (Except.ok.inj h)
  simp only [Bool.or_eq_true, decide_eq_true_eq, beq_iff_eq] at halpha hsps hspan hllr
  exact ⟨hrow, htaps, by omega, by omega, by omega, by omega, by omega, by omega⟩

/-- The profile that START latches is one it accepts. -/
theorem profileSound_latchProfile {s : State} {r : ProfileRow} {taps : List Int} (h : startCheck s = .ok (r, taps)) :
    profileSound s.rom (latchProfile s r taps) = true := by
  obtain ⟨hrow, htaps, halpha, hsps, hspan, hmaxiter, hllr, hmiss⟩ := startCheck_ok h
  obtain ⟨-, hmodcod, hshort⟩ := profileLookup_some hrow
  have htshift : cfgTshift s < 2 ^ 6 := cfgField_lt s 10 5 0
  have hword : ∀ i, (cfgRead s i).toNat < 2 ^ 16 := fun i => (cfgRead s i).isLt
  have h4 := hword 4
  have h6 := hword 6
  have h9 := hword 9
  have h11 := hword 11
  simp only [profileSound, Bool.and_eq_true, decide_eq_true_eq, beq_iff_eq, and_assoc]
  simp only [latchProfile, hmodcod, hshort, hrow, htaps, true_and, and_true]
  omega

theorem sessionSound_beginSession {s : State} {r : ProfileRow} {taps : List Int} (h : startCheck s = .ok (r, taps)) :
    sessionSound (beginSession (latchProfile s r taps) s) = true :=
  (sessionSound_active rfl).2 ⟨profileSound_latchProfile h, rfl, rfl⟩

theorem SyncChange.session {s t : State} (h : SyncChange s t) : t.session = s.session := by
  rw [h]

/-- Two states with the same `ROM`, session, `ST_CHUNK` and `ST_PLLEN` are sound together. -/
theorem SyncChange.keeps_sessionSound {s t : State} (h : SyncChange s t) : sessionSound t = sessionSound s := by
  rw [h]
  rfl

theorem Effect.keeps_sessionSound {s t : State} {i : Instr} (h : Effect s i t) (hs : sessionSound s = true) :
    sessionSound t = true := by
  cases h with
  | reset => rfl
  | start _ hcheck => exact sessionSound_beginSession hcheck
  | stop => rfl
  | sync _ _ => rw [(syncLoop_change _ _ _ _).keeps_sessionSound]; exact hs
  | _ => exact hs

theorem AgentEffect.keeps_sessionSound {s t : State} {a : AgentStep} (h : AgentEffect s a t) (hs : sessionSound s = true) :
    sessionSound t = true := by
  cases h with
  | command _ heffect => exact heffect.keeps_sessionSound hs
  | stopSignal => rfl
  | hardwareReset => rfl
  | _ => exact hs

/-- Settles O53: only START, STOP, RESET and their signals touch what soundness reads, and START latches what it checked. -/
theorem stepKeepsSession : Obligations.StepKeepsSession :=
  fun _ => step_keeps (I := fun s => sessionSound s = true) (fun _ _ hs => hs) fun _ _ _ hs heffect => heffect.keeps_sessionSound hs

/-! ### The length of a PL frame -/

theorem groupsOf_flatten {α : Type} (k n : Nat) (l : List α) (h : l.length = n * k) : (groupsOf k n l).flatten = l := by
  induction n generalizing l with
  | zero => simpa [groupsOf, eq_comm] using h
  | succ n ih =>
    have hrest : (l.drop k).length = n * k := by
      rw [List.length_drop, h, Nat.succ_mul, Nat.add_sub_cancel]
    rw [groupsOf, List.flatten_cons, ih _ hrest, List.take_append_drop]

/-- How many pilot blocks follow the slots numbered `s` + 1 to `total` (45_plframer.md R274, R282). -/
def pilotsFrom (rom : Rom) (pilots : Bool) (total s : Nat) : Nat :=
  if pilots then (total - 1) / rom.pilotPeriod - s / rom.pilotPeriod else 0

theorem pilotsFrom_zero (rom : Rom) (p : Prof) : pilotsFrom rom p.pilots (slotsOf rom p.row) 0 = pilotBlocks rom p.row p.pilots := by
  simp [pilotsFrom, pilotBlocks]

/-- A pilot block follows slot `s` + 1 exactly where the count of the blocks to come drops by one. -/
theorem pilotsFrom_succ (rom : Rom) (pilots : Bool) {total s : Nat} (h : s < total) :
    pilotsFrom rom pilots total s =
      (if pilots && (s + 1) % rom.pilotPeriod == 0 && decide (s + 1 < total) then 1 else 0) +
        pilotsFrom rom pilots total (s + 1) := by
  cases pilots with
  | false => simp [pilotsFrom]
  | true =>
    simp only [pilotsFrom, if_true, Bool.true_and, Bool.and_eq_true, beq_iff_eq, decide_eq_true_eq, Nat.succ_div,
      Nat.dvd_iff_mod_eq_zero]
    by_cases hlast : s + 1 < total
    · have hle : (s + 1) / rom.pilotPeriod ≤ (total - 1) / rom.pilotPeriod := Nat.div_le_div_right (by omega)
      rw [Nat.succ_div] at hle
      simp only [Nat.dvd_iff_mod_eq_zero] at hle
      by_cases hblock : (s + 1) % rom.pilotPeriod = 0
      · simp only [hblock, hlast, if_true, and_self] at hle ⊢; omega
      · simp only [hblock, false_and, if_false] at hle ⊢; omega
    · have hs : total - 1 = s := by omega
      simp [hlast, hs]

/-- The slots with the pilot blocks between them: their symbols and `P_PILOT_LEN` for each block. -/
theorem slotsWithPilots_length (rom : Rom) (pilots : Bool) {total s : Nat} (slots : List (List Sample))
    (h : s + slots.length = total) :
    (slotsWithPilots rom pilots total s slots).length =
      slots.flatten.length + pilotsFrom rom pilots total s * rom.pilotLen := by
  induction slots generalizing s with
  | nil =>
    have hnone : pilotsFrom rom pilots total s = 0 := by
      have : (total - 1) / rom.pilotPeriod ≤ s / rom.pilotPeriod := Nat.div_le_div_right (by simp at h; omega)
      simp only [pilotsFrom]
      split
      · omega
      · rfl
    simp [slotsWithPilots, hnone]
  | cons slot slots ih =>
    rw [List.length_cons] at h
    rw [slotsWithPilots, pilotsFrom_succ rom pilots (by omega : s < total), List.flatten_cons, List.length_append,
      List.length_append, List.length_append, ih (by omega), Nat.add_mul]
    split
    · simp only [pilotBlock, List.length_replicate]; omega
    · simp only [List.length_nil]; omega

/-- PLFRM makes L_PL symbols of the NSYM data symbols (45_plframer.md R279). -/
theorem plFrame_length {rom : Rom} {p : Prof} (hp : ProfileSizes rom p) {d : List Sample} (hd : d.length = p.nsym) :
    (plFrame rom p d).length = p.lpl := by
  have hslots : slotsOf rom p.row * rom.slotLen = d.length := by
    rw [hd, hp.nsym_eq]
    exact Nat.div_mul_cancel (Nat.dvd_of_mod_eq_zero hp.nsym_mod)
  rw [plFrame, List.length_append, profHeader_length, slotsWithPilots_length rom p.pilots _ (by simp),
    groupsOf_flatten _ _ _ hslots.symm, pilotsFrom_zero, hp.lpl_eq, plLength, hslots, Nat.add_assoc]

/-! ### The frames of the transmit chain -/

theorem fits_iff {α : Type} {n : Nat} {b : Option (List α)} : fits n b = true ↔ ∀ l, b = some l → l.length = n := by
  cases b <;> simp [fits]

/-- The transmit chain's frames have the lengths of the profile `p`. -/
structure TxFit (p : Prof) (s : State) : Prop where
  tb0 : ∀ l, s.tb0 = some l → l.length = p.row.kbch
  tb1 : ∀ l, s.tb1 = some l → l.length = p.row.nbch
  tb2 : ∀ l, s.tb2 = some l → l.length = p.row.nldpc
  tb3 : ∀ l, s.tb3 = some l → l.length = p.row.nldpc
  tb4 : ∀ l, s.tb4 = some l → l.length = p.nsym
  tb5 : ∀ l, s.tb5 = some l → l.length = p.lpl
  txdl : s.txdl.length = p.span

theorem txFramesFit_active {s : State} {p : Prof} (h : s.session = .active p) : txFramesFit s = true ↔ TxFit p s := by
  simp only [txFramesFit, h, Bool.and_eq_true, fits_iff, beq_iff_eq, and_assoc]
  exact ⟨fun ⟨h0, h1, h2, h3, h4, h5, hdl⟩ => ⟨h0, h1, h2, h3, h4, h5, hdl⟩,
    fun ⟨h0, h1, h2, h3, h4, h5, hdl⟩ => ⟨h0, h1, h2, h3, h4, h5, hdl⟩⟩

theorem txFramesFit_of_fit {s : State} {p : Prof} (h : s.session = .active p) (hfit : TxFit p s) : txFramesFit s = true :=
  (txFramesFit_active h).2 hfit

theorem shiftIn_length {len : Nat} {dl : List Sample} (x : Sample) (h : dl.length = len) : (shiftIn len x dl).length = len := by
  simp [shiftIn, h]

/-- SHAPE keeps the number of symbols in `TXDL`. -/
theorem shapeFrame_delay_length (taps : List Int) (sps : Nat) {span : Nat} (f : List Sample) {dl : List Sample}
    (h : dl.length = span) : (shapeFrame taps sps span f dl).2.length = span := by
  induction f generalizing dl with
  | nil => exact h
  | cons x f ih => exact ih (shiftIn_length x h)

theorem Effect.keeps_txFramesFit {s t : State} {i : Instr} (h : Effect s i t) (hs : sessionSound s = true)
    (hfit : txFramesFit s = true) : txFramesFit t = true := by
  have sizes : ∀ {p}, s.session = .active p → ProfileSizes s.rom p := profileSizes_of_active hs
  have fit : ∀ {p}, s.session = .active p → TxFit p s := fun hp => (txFramesFit_active hp).1 hfit
  cases h with
  | reset | stop => rfl
  | start _ _ => exact txFramesFit_of_fit rfl ⟨nofun, nofun, nofun, nofun, nofun, nofun, List.length_replicate⟩
  | sync _ _ => rw [syncLoop_change _ _ _ _]; exact hfit
  | @ldbb p c rest hp _ _ hlen =>
    refine txFramesFit_of_fit hp { fit hp with tb0 := ?_ }
    rintro _ ⟨⟩
    have := (sizes hp).kbch_mod
    rw [bitsOfBytes_length, hlen, (sizes hp).chunkBytes_eq]
    omega
  | bchenc hp hin =>
    refine txFramesFit_of_fit hp { fit hp with tb0 := nofun, tb1 := ?_ }
    rintro _ ⟨⟩
    rw [bchEncode_length, (fit hp).tb0 _ hin, (sizes hp).nbch_eq]
  | @ldpcenc p u hp hin =>
    refine txFramesFit_of_fit hp { fit hp with tb1 := nofun, tb2 := ?_ }
    rintro _ ⟨⟩
    have hnpar : (profLdpc s.rom p).npar = p.row.nldpc - p.row.kldpc := rfl
    rw [List.length_append, ldpcParity_length, (fit hp).tb1 _ hin, hnpar, (sizes hp).kldpc_eq]
    have := (sizes hp).kldpc_lt
    have := (sizes hp).kldpc_eq
    omega
  | ilv hp hin =>
    refine txFramesFit_of_fit hp { fit hp with tb2 := nofun, tb3 := ?_ }
    rintro _ ⟨⟩
    rw [interleave_length, (fit hp).tb2 _ hin]
  | map hp _ =>
    refine txFramesFit_of_fit hp { fit hp with tb3 := nofun, tb4 := ?_ }
    rintro _ ⟨⟩
    exact mapFrame_length ..
  | plfrm hp hin =>
    refine txFramesFit_of_fit hp { fit hp with tb4 := nofun, tb5 := ?_ }
    rintro _ ⟨⟩
    exact plFrame_length (sizes hp) ((fit hp).tb4 _ hin)
  | shape hp _ _ =>
    exact txFramesFit_of_fit hp { fit hp with tb5 := nofun, txdl := shapeFrame_delay_length _ _ _ (fit hp).txdl }
  | _ => exact hfit

theorem AgentEffect.keeps_txFramesFit {s t : State} {a : AgentStep} (h : AgentEffect s a t) (hs : sessionSound s = true)
    (hfit : txFramesFit s = true) : txFramesFit t = true := by
  cases h with
  | command _ heffect => exact heffect.keeps_txFramesFit hs hfit
  | stopSignal | hardwareReset => rfl
  | _ => exact hfit

/-- Settles O55: each stage makes a frame of the length its buffer asks for out of one of the right length. -/
theorem stepKeepsTransmitFrames : Obligations.StepKeepsTransmitFrames := by
  intro s hs hfit
  obtain ⟨t, hstep, -, htfit⟩ := step_keeps (I := fun s => sessionSound s = true ∧ txFramesFit s = true)
    (fun _ _ h => h) (fun _ _ _ ⟨hs, hfit⟩ heffect => ⟨heffect.keeps_sessionSound hs, heffect.keeps_txFramesFit hs hfit⟩) ⟨hs, hfit⟩
  exact ⟨t, hstep, htfit⟩

end Sys2Proof.Machine
end

section
/-! PROOFS of the family 10_state.md: the receive chain's frames, the data symbols of a PL frame, and the sample queues (R21, R46,
R48, R51). -/

namespace Sys2Proof.Machine

open Sys2Proof.Safety

/-! ### How many data symbols a PL frame has -/

/-- The length of a run of data symbols and the pilot block after it (45_plframer.md R283). -/
def blockPeriod (rom : Rom) : Nat := rom.pilotPeriod * rom.slotLen + rom.pilotLen

theorem isData_header (rom : Rom) (p : Prof) {k : Nat} (h : k < rom.hdrLen) : isData (symbolKind rom p k) = false := by
  simp [symbolKind, h, isData]

/-- After the header a symbol is a data symbol except in the last `P_PILOT_LEN` places of a period that has a pilot block. -/
theorem isData_afterHeader (rom : Rom) (p : Prof) (u : Nat) :
    isData (symbolKind rom p (rom.hdrLen + u)) =
      (!p.pilots || decide (u % blockPeriod rom < rom.pilotPeriod * rom.slotLen) ||
        decide (pilotBlocks rom p.row p.pilots ≤ u / blockPeriod rom)) := by
  have hnot : ¬ rom.hdrLen + u < rom.hdrLen := by omega
  simp only [symbolKind, hnot, if_false, Nat.add_sub_cancel_left, blockPeriod]
  cases p.pilots with
  | false => simp [isData]
  | true =>
    simp only [Bool.true_eq_false, if_false, Bool.not_true, Bool.false_or]
    split
    · next hrun => simp [isData, hrun]
    · next hrun =>
      split
      · next hblock => simp [isData, hrun, not_le.2 hblock]
      · next hblock => simp [isData, not_lt.1 hblock]

theorem dataBefore_add (rom : Rom) (p : Prof) (k n : Nat) :
    dataBefore rom p (k + n) =
      dataBefore rom p k + (List.range n).countP (fun j => isData (symbolKind rom p (k + j))) := by
  simp only [dataBefore, List.range_add, List.countP_append, List.countP_map]
  rfl

theorem dataBefore_succ (rom : Rom) (p : Prof) (k : Nat) :
    dataBefore rom p (k + 1) = dataBefore rom p k + (if isData (symbolKind rom p k) then 1 else 0) := by
  rw [dataBefore_add]
  simp [List.countP_cons]

theorem dataBefore_add_of_data {rom : Rom} {p : Prof} {k n : Nat}
    (h : ∀ j, j < n → isData (symbolKind rom p (k + j)) = true) : dataBefore rom p (k + n) = dataBefore rom p k + n := by
  rw [dataBefore_add, List.countP_eq_length.2 (by simpa using h), List.length_range]

theorem dataBefore_add_of_noData {rom : Rom} {p : Prof} {k n : Nat}
    (h : ∀ j, j < n → isData (symbolKind rom p (k + j)) = false) : dataBefore rom p (k + n) = dataBefore rom p k := by
  rw [dataBefore_add, List.countP_eq_zero.2 (by simpa using h), Nat.add_zero]

theorem dataBefore_header (rom : Rom) (p : Prof) : dataBefore rom p rom.hdrLen = 0 := by
  have h := dataBefore_add_of_noData (rom := rom) (p := p) (k := 0) (n := rom.hdrLen)
    (fun j hj => isData_header rom p (by omega))
  rwa [Nat.zero_add] at h

/-- Each period with a pilot block adds the symbols of its run of data. -/
theorem dataBefore_periods (rom : Rom) (p : Prof) {n : Nat} (hpilots : p.pilots = true)
    (hn : n ≤ pilotBlocks rom p.row p.pilots) :
    dataBefore rom p (rom.hdrLen + n * blockPeriod rom) = n * (rom.pilotPeriod * rom.slotLen) := by
  induction n with
  | zero => simpa using dataBefore_header rom p
  | succ n ih =>
    have hplace : ∀ v, v < blockPeriod rom →
        isData (symbolKind rom p (rom.hdrLen + (n * blockPeriod rom + v))) =
          decide (v < rom.pilotPeriod * rom.slotLen) := by
      intro v hv
      have hblock : ¬ pilotBlocks rom p.row p.pilots ≤ n := by omega
      have hdiv : (n * blockPeriod rom + v) / blockPeriod rom = n := by
        rw [Nat.mul_comm, Nat.mul_add_div (by omega), Nat.div_eq_of_lt hv, Nat.add_zero]
      have hmod : (n * blockPeriod rom + v) % blockPeriod rom = v := by
        rw [Nat.mul_comm, Nat.mul_add_mod, Nat.mod_eq_of_lt hv]
      simp only [isData_afterHeader, hdiv, hmod, hpilots ▸ hblock, hpilots, Bool.not_true, Bool.false_or, decide_false,
        Bool.or_false]
    have hrun : dataBefore rom p (rom.hdrLen + n * blockPeriod rom + rom.pilotPeriod * rom.slotLen) =
        dataBefore rom p (rom.hdrLen + n * blockPeriod rom) + rom.pilotPeriod * rom.slotLen := by
      refine dataBefore_add_of_data fun j hj => ?_
      rw [Nat.add_assoc, hplace j (by unfold blockPeriod; omega), decide_eq_true_eq]
      exact hj
    have hpilot : dataBefore rom p (rom.hdrLen + n * blockPeriod rom + rom.pilotPeriod * rom.slotLen + rom.pilotLen) =
        dataBefore rom p (rom.hdrLen + n * blockPeriod rom + rom.pilotPeriod * rom.slotLen) := by
      refine dataBefore_add_of_noData fun j hj => ?_
      rw [Nat.add_assoc, Nat.add_assoc, hplace _ (by unfold blockPeriod; omega), decide_eq_false_iff_not]
      omega
    have hsplit : rom.hdrLen + (n + 1) * blockPeriod rom =
        rom.hdrLen + n * blockPeriod rom + rom.pilotPeriod * rom.slotLen + rom.pilotLen := by
      rw [Nat.succ_mul, blockPeriod]
      omega
    rw [hsplit, hpilot, hrun, ih (by omega), Nat.succ_mul]

/-- After the last pilot block only data symbols follow. -/
theorem isData_afterPilots (rom : Rom) (p : Prof) (hslot : 0 < rom.slotLen) (v : Nat) :
    isData (symbolKind rom p (rom.hdrLen + (pilotBlocks rom p.row p.pilots * blockPeriod rom + v))) = true := by
  rw [isData_afterHeader]
  by_cases hperiod : blockPeriod rom = 0
  · have hnone : rom.pilotPeriod = 0 := by
      have : rom.pilotPeriod * rom.slotLen = 0 := by unfold blockPeriod at hperiod; omega
      exact (Nat.mul_eq_zero.1 this).resolve_right hslot.ne'
    simp [pilotBlocks, hnone]
  · have hle : pilotBlocks rom p.row p.pilots ≤
        (pilotBlocks rom p.row p.pilots * blockPeriod rom + v) / blockPeriod rom :=
      (Nat.le_div_iff_mul_le (by omega)).2 (by omega)
    simp [hle]

/-- A whole PL frame has NSYM data symbols (45_plframer.md R278, R279, R283). -/
theorem dataBefore_frame {rom : Rom} {p : Prof} (hp : ProfileSizes rom p) : dataBefore rom p p.lpl = p.nsym := by
  have hslots : slotsOf rom p.row * rom.slotLen = p.nsym := by
    rw [hp.nsym_eq]
    exact Nat.div_mul_cancel (Nat.dvd_of_mod_eq_zero hp.nsym_mod)
  have hruns : pilotBlocks rom p.row p.pilots * (rom.pilotPeriod * rom.slotLen) ≤ p.nsym := by
    rw [← hslots, ← Nat.mul_assoc]
    refine Nat.mul_le_mul_right _ ?_
    unfold pilotBlocks
    split
    · exact (Nat.div_mul_le_self _ _).trans (Nat.sub_le _ _)
    · simp
  have hperiods : dataBefore rom p (rom.hdrLen + pilotBlocks rom p.row p.pilots * blockPeriod rom) =
      pilotBlocks rom p.row p.pilots * (rom.pilotPeriod * rom.slotLen) := by
    cases hpilots : p.pilots with
    | true => exact hpilots ▸ dataBefore_periods rom p hpilots le_rfl
    | false => simpa [pilotBlocks] using dataBefore_header rom p
  have hlpl : p.lpl = rom.hdrLen + pilotBlocks rom p.row p.pilots * blockPeriod rom +
      (p.nsym - pilotBlocks rom p.row p.pilots * (rom.pilotPeriod * rom.slotLen)) := by
    rw [hp.lpl_eq, plLength, hslots, blockPeriod, Nat.mul_add]
    omega
  rw [hlpl, dataBefore_add_of_data, hperiods]
  · omega
  · intro j _
    rw [Nat.add_assoc]
    exact isData_afterPilots rom p hp.slotLen_pos j

/-! ### The synchronization state -/

/-- `WIN` has its length, and `ACC` as many symbols as there are data symbols below `K` (10_state.md R51, 47_synchronizer.md
R342 (2)). -/
structure SyncFit (rom : Rom) (p : Prof) (y : SyncState) : Prop where
  win : y.win.length = winLength rom p.sps
  acc : y.acc.length = dataBefore rom p y.k

theorem syncFit_cleared (rom : Rom) (p : Prof) (pos : Nat) : SyncFit rom p (SyncState.cleared (winLength rom p.sps) pos) :=
  ⟨List.length_replicate, rfl⟩

theorem SyncFit.keeps_windowIn {rom : Rom} {p : Prof} {y : SyncState} (h : SyncFit rom p y) (hsps : 2 ≤ p.sps) (x : Sample) :
    SyncFit rom p (windowIn x y) := by
  refine ⟨?_, h.acc⟩
  have hpos : 0 < winLength rom p.sps := Nat.mul_pos (by omega) (by omega)
  have hwin := h.win
  simp only [windowIn, List.length_cons, List.length_dropLast]
  omega

theorem SyncFit.sameSymbols {rom : Rom} {p : Prof} {y y' : SyncState} (h : SyncFit rom p y) (hy : SameSymbols y y') :
    SyncFit rom p y' :=
  ⟨hy.win ▸ h.win, by rw [hy.acc, hy.k]; exact h.acc⟩

theorem SyncFit.keeps_takeSymbol {rom : Rom} {p : Prof} {y : SyncState} (h : SyncFit rom p y) (hdr : List Sample) :
    SyncFit rom p (takeSymbol rom hdr p y) := by
  have hacc : (takeSymbol rom hdr p y).acc.length = dataBefore rom p (y.k + 1) := by
    rw [dataBefore_succ, ← h.acc]
    unfold takeSymbol
    cases symbolKind rom p y.k with
    | data n => simp [countSince, isData]
    | header n => simp [countSince, accumulateRef, isData]
    | pilot b n => simp [countSince, accumulateRef, isData]
  have hwin : (takeSymbol rom hdr p y).win = y.win ∧ (takeSymbol rom hdr p y).k = y.k + 1 := by
    unfold takeSymbol
    cases symbolKind rom p y.k with
    | data n => exact ⟨rfl, rfl⟩
    | header n => exact ⟨rfl, rfl⟩
    | pilot b n => exact ⟨rfl, rfl⟩
  exact ⟨hwin.1 ▸ h.win, hwin.2 ▸ hacc⟩

/-- What a SYNC in progress keeps of the receive chain's lengths. -/
structure RunFit (rom : Rom) (p : Prof) (r : SyncRun) : Prop where
  rom_eq : r.st.rom = rom
  sync : SyncFit rom p r.st.sync
  rb4 : ∀ l, r.st.rb4 = some l → l.length = p.nsym

section
variable {rom : Rom} {p : Prof} {hdr : List Sample} {r r' : SyncRun}

theorem RunFit.keeps_modifySync {f : SyncState → SyncState} (h : RunFit rom p r) (hf : SyncFit rom p (f r.st.sync)) :
    RunFit rom p (modifySync f r) := ⟨h.rom_eq, hf, h.rb4⟩

theorem RunFit.keeps_resetSync (h : RunFit rom p r) : RunFit rom p (modifySync (resetSync r.st.rom p) r) := by
  refine h.keeps_modifySync ?_
  rw [h.rom_eq]
  exact syncFit_cleared rom p _

theorem RunFit.keeps_gapAction (h : RunFit rom p r) : RunFit rom p (gapAction p r) := by
  unfold gapAction
  split
  · exact RunFit.keeps_resetSync (r := { r with st := countDropped r.st, dropped := true }) ⟨h.rom_eq, h.sync, h.rb4⟩
  · exact h.keeps_resetSync

theorem RunFit.keeps_searchStep (h : RunFit rom p r) (e : Nat) : RunFit rom p (searchStep hdr p e r) := by
  obtain hsame | ⟨y, hk, hacc, hwin, hlock⟩ := searchStep_cases hdr p e r
  · rw [hsame]; exact h
  · rw [hlock]
    refine ⟨h.rom_eq, ⟨hwin ▸ h.sync.win, ?_⟩, h.rb4⟩
    rw [hacc, hk, h.rom_eq, dataBefore_header]
    rfl

theorem RunFit.keeps_syncLoss (h : RunFit rom p r) : RunFit rom p (syncLoss p r) :=
  RunFit.keeps_resetSync (r := { r with st := raiseExc .synchronizationLoss r.st, lost := true }) ⟨h.rom_eq, h.sync, h.rb4⟩

theorem RunFit.keeps_frameClose (hp : ProfileSizes rom p) (h : RunFit rom p r) (hk : r.st.sync.k = p.lpl) :
    RunFit rom p (frameClose p r) := by
  have hclosed : SyncFit rom p (commitEstimates
      { r.st.sync with acc := [], next := r.st.sync.next + (p.lpl * p.sps : Nat), k := 0 }) := ⟨h.sync.win, rfl⟩
  have hframe : r.st.sync.acc.length = p.nsym := by rw [h.sync.acc, hk, dataBefore_frame hp]
  unfold frameClose
  dsimp only
  split
  · exact ⟨h.rom_eq, hclosed, h.rb4⟩
  · exact ⟨h.rom_eq, hclosed, by rintro _ ⟨⟩; exact hframe⟩

theorem RunFit.keeps_locked (hp : ProfileSizes rom p) (h : RunFit rom p r) (heffect : LockedEffect hdr p r r') :
    RunFit rom p r' := by
  have htake : ∀ {y}, SameSymbols (takeSymbol r.st.rom hdr p r.st.sync) y → RunFit rom p (modifySync (fun _ => y) r) := by
    intro y hy
    rw [h.rom_eq] at hy
    exact h.keeps_modifySync ((h.sync.keeps_takeSymbol hdr).sameSymbols hy)
  cases heffect with
  | wait => exact h
  | loss hy => exact (htake hy).keeps_syncLoss
  | symbol hy => exact htake hy
  | close hy hk => exact (htake hy).keeps_frameClose hp hk

end

/-- The loop of SYNC keeps the lengths of the synchronization state, and delivers frames of NSYM symbols. -/
theorem syncLoop_runFit {rom : Rom} {p : Prof} (hp : ProfileSizes rom p) (hdr : List Sample) (n : Nat) {s : State}
    (h : RunFit rom p (syncBegin s)) : RunFit rom p (syncLoop hdr p n (syncBegin s)) := by
  refine syncLoop_keeps (J := RunFit rom p) (fun r x rest hr _ _ => ?sample) n h rfl
  case sample =>
    exact consumeSample_keeps (I := RunFit rom p) (fun r h => h.keeps_gapAction)
      (fun r x h => h.keeps_modifySync (h.sync.keeps_windowIn hp.sps_ge x)) (fun r e h => h.keeps_searchStep e)
      (fun r r' h _ heffect => h.keeps_locked hp heffect) ⟨hr.rom_eq, hr.sync, hr.rb4⟩

/-! ### The frames of the receive chain -/

@[simp] theorem hardBits_length (l : List Int) : (hardBits l).length = l.length := List.length_map ..

@[simp] theorem posteriors_length (llrmax : Int) (checks : List (List Nat)) (l : List Int) (r : List (List Int)) :
    (posteriors llrmax checks l r).length = l.length := by simp [posteriors]

theorem ldpcLoop_word_length (llrmax : Int) (checks : List (List Nat)) (l : List Int) (left it : Nat) {q : List Int}
    (r : List (List Int)) (h : q.length = l.length) : (ldpcLoop llrmax checks l left it q r).word.length = l.length := by
  induction left generalizing it q r with
  | zero =>
    unfold ldpcLoop
    split
    · rw [hardBits_length, h]
    · rw [hardBits_length, h]
  | succ left ih =>
    unfold ldpcLoop
    split
    · rw [hardBits_length, h]
    · exact ih _ _ (posteriors_length ..)

/-- The LDPC decoder answers a word as long as its input. -/
theorem ldpcDecode_word_length (c : LdpcCode) (llrmax maxiter : Nat) (l : List Llr) :
    (ldpcDecode c llrmax maxiter l).word.length = l.length := by
  rw [ldpcDecode, ldpcLoop_word_length _ _ _ _ _ _ rfl, List.length_map]

@[simp] theorem gfPowers_length (f : GField) (x n cur : Nat) : (gfPowers f x n cur).length = n := by
  induction n generalizing cur with
  | zero => rfl
  | succ n ih => rw [gfPowers, List.length_cons, ih]

@[simp] theorem chienFlags_length (f : GField) (lambda : List Nat) (n : Nat) : (chienFlags f lambda n).length = n := by
  simp [chienFlags]

/-- The BCH decoder answers a word as long as the one it received. -/
theorem bchDecode_length {f : GField} {t e : Nat} {y c : List Bool} (h : bchDecode f t y = some (c, e)) :
    c.length = y.length := by
  unfold bchDecode at h
  dsimp only at h
  split at h
  · obtain ⟨rfl, -⟩ := Prod.mk.inj (Option.some.inj h)
    rfl
  split at h
  · contradiction
  split at h
  · contradiction
  split at h
  · obtain ⟨rfl, -⟩ := Prod.mk.inj (Option.some.inj h)
    simp
  · contradiction

/-- MFILT keeps the number of samples in `RXDL`. -/
theorem mfiltRun_delay_length (taps : List Int) {len : Nat} (x : List TaggedSample) {dl : List Sample} (h : dl.length = len) :
    (mfiltRun taps len x dl).2.length = len := by
  induction x generalizing dl with
  | nil => exact h
  | cons a x ih => exact ih (shiftIn_length a.sample h)

/-- The receive chain's frames and delay lines have the lengths of the profile `p`. -/
structure RxFit (p : Prof) (s : State) : Prop where
  rb4 : ∀ l, s.rb4 = some l → l.length = p.nsym
  rb3 : ∀ l, s.rb3 = some l → l.length = p.row.nldpc
  rb2 : ∀ l, s.rb2 = some l → l.length = p.row.nldpc
  rb1 : ∀ f, s.rb1 = some f → f.bits.length = p.row.nbch
  rb0 : ∀ l, s.rb0 = some l → l.length = p.row.kbch
  rxdl : s.rxdl.length = tapCount p.sps p.span - 1
  sync : SyncFit s.rom p s.sync

theorem rxFramesFit_active {s : State} {p : Prof} (h : s.session = .active p) : rxFramesFit s = true ↔ RxFit p s := by
  simp only [rxFramesFit, h, Bool.and_eq_true, fits_iff, beq_iff_eq, and_assoc, Option.map_eq_some_iff,
    forall_exists_index, and_imp, forall_apply_eq_imp_iff₂]
  exact ⟨fun ⟨h4, h3, h2, h1, h0, hdl, hwin, hacc⟩ => ⟨h4, h3, h2, h1, h0, hdl, hwin, hacc⟩,
    fun ⟨h4, h3, h2, h1, h0, hdl, hwin, hacc⟩ => ⟨h4, h3, h2, h1, h0, hdl, hwin, hacc⟩⟩

theorem rxFramesFit_of_fit {s : State} {p : Prof} (h : s.session = .active p) (hfit : RxFit p s) : rxFramesFit s = true :=
  (rxFramesFit_active h).2 hfit

theorem RxFit.of_syncChange {p : Prof} {s t : State} (h : RxFit p s) (hchange : SyncChange s t)
    (hrb4 : ∀ l, t.rb4 = some l → l.length = p.nsym) (hsync : SyncFit s.rom p t.sync) : RxFit p t := by
  rw [hchange]
  exact { h with rb4 := hrb4, sync := hsync }

theorem Effect.keeps_rxFramesFit {s t : State} {i : Instr} (h : Effect s i t) (hs : sessionSound s = true)
    (hfit : rxFramesFit s = true) : rxFramesFit t = true := by
  have sizes : ∀ {p}, s.session = .active p → ProfileSizes s.rom p := profileSizes_of_active hs
  have fit : ∀ {p}, s.session = .active p → RxFit p s := fun hp => (rxFramesFit_active hp).1 hfit
  cases h with
  | reset | stop => rfl
  | start _ _ =>
    exact rxFramesFit_of_fit rfl ⟨nofun, nofun, nofun, nofun, nofun, List.length_replicate, syncFit_cleared ..⟩
  | mfilt hp _ _ _ => exact rxFramesFit_of_fit hp { fit hp with rxdl := mfiltRun_delay_length _ _ (fit hp).rxdl }
  | @sync p n hp _ =>
    have hrun := syncLoop_runFit (sizes hp) (profHeader s.rom p) n.toNat ⟨rfl, (fit hp).sync, (fit hp).rb4⟩
    have hchange : SyncChange s _ := syncLoop_change (profHeader s.rom p) p n.toNat (syncBegin s)
    exact rxFramesFit_of_fit (hchange.session.trans hp) ((fit hp).of_syncChange hchange hrun.rb4 hrun.sync)
  | @demap p y hp hin =>
    refine rxFramesFit_of_fit hp { fit hp with rb4 := nofun, rb3 := ?_ }
    rintro _ ⟨⟩
    rw [demapFrame_length, (fit hp).rb4 _ hin, (sizes hp).nsym_eq]
    exact Nat.div_mul_cancel (Nat.dvd_of_mod_eq_zero (sizes hp).nldpc_mod)
  | deilv hp hin =>
    refine rxFramesFit_of_fit hp { fit hp with rb3 := nofun, rb2 := ?_ }
    rintro _ ⟨⟩
    rw [deinterleave_length, (fit hp).rb3 _ hin]
  | @ldpcdec p l d hp hin _ hdec =>
    refine rxFramesFit_of_fit hp { fit hp with rb2 := nofun, rb1 := ?_ }
    rintro _ ⟨⟩
    have hword : d.word.length = p.row.nldpc := by rw [← hdec, ldpcDecode_word_length, (fit hp).rb2 _ hin]
    have hlt := (sizes hp).kldpc_lt
    rw [List.length_take, hword, ← (sizes hp).kldpc_eq]
    omega
  | bchdec hp hin _ hdec =>
    refine rxFramesFit_of_fit hp { fit hp with rb1 := nofun, rb0 := ?_ }
    rintro _ ⟨⟩
    have hnbch := (sizes hp).nbch_eq
    rw [List.length_take, bchDecode_length hdec, (fit hp).rb1 _ hin]
    omega
  | bchdecFails hp => exact rxFramesFit_of_fit hp { fit hp with rb1 := nofun }
  | stbb hp => exact rxFramesFit_of_fit hp { fit hp with rb0 := nofun }
  | _ => exact hfit

theorem AgentEffect.keeps_rxFramesFit {s t : State} {a : AgentStep} (h : AgentEffect s a t) (hs : sessionSound s = true)
    (hfit : rxFramesFit s = true) : rxFramesFit t = true := by
  cases h with
  | command _ heffect => exact heffect.keeps_rxFramesFit hs hfit
  | stopSignal | hardwareReset => rfl
  | _ => exact hfit

/-- Settles O56: each stage by its length lemma, and SYNC by its loop invariant, with NSYM data symbols in a PL frame. -/
theorem stepKeepsReceiveFrames : Obligations.StepKeepsReceiveFrames := by
  intro s hs hfit
  obtain ⟨t, hstep, -, htfit⟩ := step_keeps (I := fun s => sessionSound s = true ∧ rxFramesFit s = true)
    (fun _ _ h => h)
    (fun _ _ _ ⟨hs, hfit⟩ heffect => ⟨heffect.keeps_sessionSound hs, heffect.keeps_rxFramesFit hs hfit⟩) ⟨hs, hfit⟩
  exact ⟨t, hstep, htfit⟩

/-! ### The sample queues -/

theorem queuesFit_iff {s : State} :
    queuesFit s = true ↔ s.txq.length ≤ s.rom.txqDepth ∧ s.rxq.length ≤ s.rom.rxqDepth ∧ s.mfq.length ≤ s.rom.rxqDepth := by
  simp [queuesFit, and_assoc]

/-- SYNC only takes samples from `MFQ`. -/
theorem syncLoop_mfq_length_le (hdr : List Sample) (p : Prof) (n : Nat) (s : State) :
    (syncLoop hdr p n (syncBegin s)).st.mfq.length ≤ s.mfq.length := by
  refine syncLoop_related (R := fun s t => t.mfq.length ≤ s.mfq.length) (fun _ => le_rfl) (fun _ _ _ h k => k.trans h)
    (fun s t h => ?move) hdr p n s
  case move =>
    cases h with
    | take hq => simp [hq]
    | _ => exact le_rfl

theorem Effect.keeps_queuesFit {s t : State} {i : Instr} (h : Effect s i t) (htx : txFramesFit s = true)
    (hfit : queuesFit s = true) : queuesFit t = true := by
  obtain ⟨htxq, hrxq, hmfq⟩ := queuesFit_iff.1 hfit
  cases h with
  | reset | start _ _ | stop => exact queuesFit_iff.2 ⟨Nat.zero_le _, Nat.zero_le _, Nat.zero_le _⟩
  | shape hp hin hroom =>
    refine queuesFit_iff.2 ⟨?_, hrxq, hmfq⟩
    rw [List.length_append, shapeFrame_length, ((txFramesFit_active hp).1 htx).tb5 _ hin]
    exact hroom
  | mfilt hp _ hhave hroom =>
    refine queuesFit_iff.2 ⟨htxq, ?_, ?_⟩
    · rw [List.length_drop]
      exact (Nat.sub_le _ _).trans hrxq
    · rw [List.length_append, mfiltRun_length, List.length_take_of_le hhave]
      exact hroom
  | @sync p n hp _ =>
    have hmfq' := syncLoop_mfq_length_le (profHeader s.rom p) p n.toNat s
    have hchange : SyncChange s _ := syncLoop_change (profHeader s.rom p) p n.toNat (syncBegin s)
    generalize (syncLoop (profHeader s.rom p) p n.toNat (syncBegin s)).st = t at hmfq' hchange ⊢
    rw [hchange]
    exact queuesFit_iff.2 ⟨htxq, hrxq, hmfq'.trans hmfq⟩
  | _ => exact hfit

theorem AgentEffect.keeps_queuesFit {s t : State} {a : AgentStep} (h : AgentEffect s a t) (htx : txFramesFit s = true)
    (hfit : queuesFit s = true) : queuesFit t = true := by
  obtain ⟨htxq, hrxq, hmfq⟩ := queuesFit_iff.1 hfit
  cases h with
  | command _ heffect => exact heffect.keeps_queuesFit htx hfit
  | stopSignal | hardwareReset => exact queuesFit_iff.2 ⟨Nat.zero_le _, Nat.zero_le _, Nat.zero_le _⟩
  | pop hq => exact queuesFit_iff.2 ⟨(by simp [hq] : _ ≤ s.txq.length).trans htxq, hrxq, hmfq⟩
  | push hroom => exact queuesFit_iff.2 ⟨htxq, by simpa using hroom, hmfq⟩
  | _ => exact hfit

/-- Settles O57: SHAPE and MFILT and a radio push ask for room first, and every other step only takes samples. -/
theorem stepKeepsQueues : Obligations.StepKeepsQueues := by
  intro s hs htx hfit
  obtain ⟨t, hstep, -, -, htfit⟩ := step_keeps
    (I := fun s => sessionSound s = true ∧ txFramesFit s = true ∧ queuesFit s = true) (fun _ _ h => h)
    (fun _ _ _ ⟨hs, htx, hfit⟩ heffect =>
      ⟨heffect.keeps_sessionSound hs, heffect.keeps_txFramesFit hs htx, heffect.keeps_queuesFit htx hfit⟩) ⟨hs, htx, hfit⟩
  exact ⟨t, hstep, htfit⟩

end Sys2Proof.Machine
end

section
/-! PROOFS of the family 10_state.md: what every step leaves of `ROM`, the configuration, events, counters, `ST_LASTERR` and the
decoder results, what the status registers show, and the commit of the estimates (R24, R35, R38, R39, R42 to R44, R50, R54). -/

namespace Sys2Proof.Machine

open Sys2Proof.Safety

/-! ### `ROM` and the configuration -/

theorem Effect.rom {s t : State} {i : Instr} (h : Effect s i t) : t.rom = s.rom := by
  cases h with
  | sync _ _ => rw [syncLoop_change _ _ _ _]; rfl
  | _ => rfl

theorem AgentEffect.rom {s t : State} {a : AgentStep} (h : AgentEffect s a t) : t.rom = s.rom := by
  cases h with
  | command _ heffect => exact heffect.rom
  | _ => rfl

/-- Settles O8: no effect of a command or of another agent's step writes `rom`. -/
theorem romNeverWritten : Obligations.RomNeverWritten := by
  refine ⟨fun s => ?step, fun i s => ?exec⟩
  case step =>
    exact step_keeps (I := fun t => t.rom = s.rom) (fun _ _ h => h) (fun _ _ _ h heffect => heffect.rom.trans h) rfl
  case exec =>
    obtain ⟨_, _, t, hexec, heffect⟩ := exec_answers i s
    exact ⟨_, hexec, heffect.rom⟩

/-- A command changes the configuration only as RESET, or as the CFGW of a register while IDLE. -/
theorem Effect.cfg {s t : State} {i : Instr} (h : Effect s i t) (hreset : i ≠ .reset)
    (hcfgw : ∀ idx v, i = .cfgw idx v → s.session = .idle → 13 < idx.toNat) : t.cfg = s.cfg := by
  cases h with
  | reset => contradiction
  | cfgw hidle hidx => exact absurd (hcfgw _ _ rfl hidle) (not_lt.2 hidx)
  | sync _ _ => rw [syncLoop_change _ _ _ _]; rfl
  | _ => rfl

theorem not_reset_of_isReset_false {w : BitVec 32} {i : Instr} (h : isReset (.command w) = false)
    (hword : decode w = .instr i) : i ≠ .reset := by
  rintro rfl
  simp [isReset, hword] at h

theorem AgentEffect.cfg {s t : State} {a : AgentStep} (h : AgentEffect s a t) (hreset : isReset a = false)
    (hcfgw : ∀ w idx v, a = .command w → decode w = .instr (.cfgw idx v) → s.session = .idle → 13 < idx.toNat) :
    t.cfg = s.cfg := by
  cases h with
  | command hword heffect =>
    exact heffect.cfg (not_reset_of_isReset_false hreset hword) fun idx v hi => hcfgw _ idx v rfl (hi ▸ hword)
  | hardwareReset => exact absurd hreset nofun
  | _ => rfl

theorem exec_cfgw_idle {s : State} {idx : BitVec 8} (v : BitVec 16) (hidle : s.session = .idle) (hidx : idx.toNat ≤ 13) :
    exec (.cfgw idx v) s = .next (respond 0x00 0 (cfgWrite idx.toNat v s)) := by
  rw [exec, execCfgw, whenIndex_le hidx, whenIdle_idle hidle, respondOk_eq]

/-- Settles O9: the CFGW of a register while IDLE writes it alone; every other effect but a reset leaves the configuration. -/
theorem configurationFrozen : Obligations.ConfigurationFrozen := by
  intro a s hreset
  obtain ⟨t, hstep, heffect⟩ := agentStep_effect a s
  refine ⟨t, hstep, ?write, heffect.cfg hreset⟩
  case write =>
    rintro w idx v rfl hword hidle hidx j -
    rw [agentStep_command hword, exec_cfgw_idle v hidle hidx] at hstep
    obtain rfl := Host.Outcome.next.inj hstep
    exact cfgRead_cfgWrite s idx.toNat j v (by omega)

/-! ### Events and counters -/

/-- From `s` to `t` no event bit is cleared. -/
def KeepsEvents (s t : State) : Prop := s.event &&& t.event = s.event

/-- From `s` to `t` no counter decreases. -/
def KeepsCounters (s t : State) : Prop := List.Forall₂ (fun c d => c.toNat ≤ d.toNat) (counters s) (counters t)

/-- From `s` to `t` `ST_LASTERR` keeps its value, or takes the record of an exception. -/
def KeepsLasterr (s t : State) : Prop := t.lasterr = s.lasterr ∨ ∃ e, t.lasterr = excRecord e

theorem KeepsEvents.refl (s : State) : KeepsEvents s s := BitVec.and_self

theorem KeepsEvents.trans {s t u : State} (h : KeepsEvents s t) (k : KeepsEvents t u) : KeepsEvents s u := by
  unfold KeepsEvents at *
  rw [← h, BitVec.and_assoc, k]

theorem KeepsCounters.refl (s : State) : KeepsCounters s s := List.forall₂_same.2 fun _ _ => le_rfl

theorem KeepsCounters.trans {s t u : State} (h : KeepsCounters s t) (k : KeepsCounters t u) : KeepsCounters s u := by
  simp only [KeepsCounters, counters, List.forall₂_cons, List.forall₂_nil_right_iff, and_true] at *
  omega

theorem KeepsLasterr.refl (s : State) : KeepsLasterr s s := .inl rfl

theorem KeepsLasterr.trans {s t u : State} (h : KeepsLasterr s t) (k : KeepsLasterr t u) : KeepsLasterr s u := by
  obtain hsame | hrecord := k
  · unfold KeepsLasterr
    rw [hsame]
    exact h
  · exact .inr hrecord

theorem raiseExc_keepsEvents (e : Exc) (s : State) : KeepsEvents s (raiseExc e s) := withEvent_keeps _ _

theorem raiseExc_keepsCounters (e : Exc) (s : State) : KeepsCounters s (raiseExc e s) := by
  simp [KeepsCounters, counters, le_bumpIf]

theorem raiseExc_keepsLasterr (e : Exc) (s : State) : KeepsLasterr s (raiseExc e s) := .inr ⟨e, rfl⟩

theorem countDropped_keepsCounters (s : State) : KeepsCounters s (countDropped s) := by
  simp [KeepsCounters, counters, countDropped, le_satInc]

section
variable (hdr : List Sample) (p : Prof) (n : Nat) (s : State)

theorem syncLoop_keepsEvents : KeepsEvents s (syncLoop hdr p n (syncBegin s)).st := by
  refine syncLoop_related KeepsEvents.refl (fun _ _ _ => .trans) (fun s t h => ?move) hdr p n s
  case move =>
    cases h with
    | dropFrame => exact withEvent_keeps _ _
    | loss => exact raiseExc_keepsEvents _ s
    | lock y => exact withEvent_keeps _ _
    | _ => exact KeepsEvents.refl s

theorem syncLoop_keepsCounters : KeepsCounters s (syncLoop hdr p n (syncBegin s)).st := by
  refine syncLoop_related KeepsCounters.refl (fun _ _ _ => .trans) (fun s t h => ?move) hdr p n s
  case move =>
    cases h with
    | dropFrame => exact countDropped_keepsCounters s
    | loss => exact raiseExc_keepsCounters _ s
    | _ => exact KeepsCounters.refl s

theorem syncLoop_keepsLasterr : KeepsLasterr s (syncLoop hdr p n (syncBegin s)).st := by
  refine syncLoop_related KeepsLasterr.refl (fun _ _ _ => .trans) (fun s t h => ?move) hdr p n s
  case move =>
    cases h with
    | loss => exact raiseExc_keepsLasterr _ s
    | _ => exact KeepsLasterr.refl s

end

/-- A command clears event bits only as RESET or CLREV. -/
theorem Effect.keepsEvents {s t : State} {i : Instr} (h : Effect s i t) (hreset : i ≠ .reset) (hclrev : ∀ mask, i ≠ .clrev mask) :
    KeepsEvents s t := by
  cases h with
  | reset => contradiction
  | clrev => exact absurd rfl (hclrev _)
  | illegal _ c => exact raiseExc_keepsEvents _ s
  | startFails _ _ => exact raiseExc_keepsEvents _ s
  | ldbbFails e _ _ _ _ => exact withEvent_keeps _ _
  | bchdecFails _ _ _ _ => exact withEvent_keeps _ _
  | ldpcdec _ _ _ _ =>
    unfold KeepsEvents
    dsimp only
    split
    · exact BitVec.and_self
    · exact withEvent_keeps _ _
  | sync _ _ => exact syncLoop_keepsEvents ..
  | _ => exact KeepsEvents.refl s

theorem Effect.keepsCounters {s t : State} {i : Instr} (h : Effect s i t) (hreset : i ≠ .reset) : KeepsCounters s t := by
  cases h with
  | reset => contradiction
  | illegal _ c => exact raiseExc_keepsCounters _ s
  | startFails _ _ => exact raiseExc_keepsCounters _ s
  | @ldbbFails _ _ rest e => exact raiseExc_keepsCounters _ { s with bbin := rest }
  | bchdecFails _ _ _ _ => exact raiseExc_keepsCounters _ { s with rb1 := none, bchErrcnt := 0xFFFFFFFF }
  | ldpcdec _ _ _ _ => simp [KeepsCounters, counters, le_bumpIf]
  | sync _ _ => exact syncLoop_keepsCounters ..
  | _ => exact KeepsCounters.refl s

theorem Effect.keepsLasterr {s t : State} {i : Instr} (h : Effect s i t) (hreset : i ≠ .reset) : KeepsLasterr s t := by
  cases h with
  | reset => contradiction
  | illegal _ c => exact raiseExc_keepsLasterr _ s
  | startFails _ _ => exact raiseExc_keepsLasterr _ s
  | ldbbFails e _ _ _ _ => exact .inr ⟨_, rfl⟩
  | bchdecFails _ _ _ _ => exact .inr ⟨_, rfl⟩
  | sync _ _ => exact syncLoop_keepsLasterr ..
  | _ => exact KeepsLasterr.refl s

section
variable {s t : State} {a : AgentStep}

theorem AgentEffect.keepsEvents (h : AgentEffect s a t) (hreset : isReset a = false)
    (hclrev : ∀ w mask, a = .command w → decode w ≠ .instr (.clrev mask)) : KeepsEvents s t := by
  cases h with
  | command hword heffect =>
    exact heffect.keepsEvents (not_reset_of_isReset_false hreset hword) fun mask hi => hclrev _ mask rfl (hi ▸ hword)
  | illegalWord _ => exact raiseExc_keepsEvents _ s
  | hardwareReset => exact absurd hreset nofun
  | underrun _ => exact raiseExc_keepsEvents _ s
  | overrun _ => exact raiseExc_keepsEvents .streamOverrun s
  | _ => exact KeepsEvents.refl s

theorem AgentEffect.keepsCounters (h : AgentEffect s a t) (hreset : isReset a = false) : KeepsCounters s t := by
  cases h with
  | command hword heffect => exact heffect.keepsCounters (not_reset_of_isReset_false hreset hword)
  | @illegalWord _ c _ _ _ => exact raiseExc_keepsCounters (.illegalCommand c) s
  | hardwareReset => exact absurd hreset nofun
  | underrun _ => exact raiseExc_keepsCounters _ s
  | overrun _ => exact raiseExc_keepsCounters .streamOverrun s
  | _ => exact KeepsCounters.refl s

theorem AgentEffect.keepsLasterr (h : AgentEffect s a t) (hreset : isReset a = false) : KeepsLasterr s t := by
  cases h with
  | command hword heffect => exact heffect.keepsLasterr (not_reset_of_isReset_false hreset hword)
  | illegalWord _ => exact raiseExc_keepsLasterr _ s
  | hardwareReset => exact absurd hreset nofun
  | underrun _ => exact raiseExc_keepsLasterr _ s
  | overrun _ => exact raiseExc_keepsLasterr .streamOverrun s
  | _ => exact KeepsLasterr.refl s

end

/-- Settles O11: every exception and every event only sets bits and only counts up, in each effect but CLREV's and the resets'. -/
theorem eventsAndCountersAccumulate : Obligations.EventsAndCountersAccumulate := by
  intro a s hreset
  obtain ⟨t, hstep, heffect⟩ := agentStep_effect a s
  refine ⟨t, hstep, ?clrev, heffect.keepsEvents hreset, heffect.keepsCounters hreset⟩
  case clrev =>
    rintro w mask rfl hword
    rw [agentStep_command hword] at hstep
    obtain rfl := Host.Outcome.next.inj hstep
    rfl

theorem excRecord_ne_zero (e : Exc) : excRecord e ≠ 0 := by
  cases e with
  | configurationError c => cases c <;> decide
  | txChunkError c => cases c <;> decide
  | illegalCommand c => cases c <;> decide
  | _ => decide

theorem lasterr_of_reset {s t : State} {a : AgentStep} (hreset : isReset a = true) (hstep : agentStep a s = .next t) :
    t.lasterr = 0 := by
  cases a with
  | command w =>
    rw [agentStep_command (of_decide_eq_true hreset)] at hstep
    obtain rfl := Host.Outcome.next.inj hstep
    rfl
  | hardwareReset =>
    obtain rfl := Host.Outcome.next.inj hstep
    rfl
  | _ => exact absurd hreset nofun

/-- Settles O12: an exception writes its record, no other effect but the resets' touches the register. -/
theorem lastErrorRegister : Obligations.LastErrorRegister := by
  refine ⟨fun e s => ⟨rfl, excRecord_ne_zero e⟩, fun a s => ?step⟩
  case step =>
    obtain ⟨t, hstep, heffect⟩ := agentStep_effect a s
    exact ⟨t, hstep, fun hreset => lasterr_of_reset hreset hstep, heffect.keepsLasterr⟩

/-! ### The words of the commands -/

theorem commandWord_fields (w : BitVec 32) : commandWord (opcodeOf w) (idxOf w) (immOf w) = w := by
  apply BitVec.eq_of_getLsbD_eq
  intro k hk
  simp only [commandWord, opcodeOf, idxOf, immOf, BitVec.getLsbD_append, BitVec.getLsbD_extractLsb']
  grind

theorem decodeN_eq_instr {w : BitVec 32} {i j : Instr} (h : decodeN w i = .instr j) :
    i = j ∧ idxOf w = 0 ∧ immOf w = 0 := by
  unfold decodeN at h
  split at h
  · next hzero => exact ⟨Decoded.instr.inj h, hzero⟩
  · contradiction

theorem decodeIdx_eq_instr {w : BitVec 32} {i : BitVec 8 → Instr} {j : Instr} (h : decodeIdx w i = .instr j) :
    i (idxOf w) = j ∧ immOf w = 0 := by
  unfold decodeIdx at h
  split at h
  · next hzero => exact ⟨Decoded.instr.inj h, hzero⟩
  · contradiction

theorem decodeImm_eq_instr {w : BitVec 32} {i : BitVec 16 → Instr} {j : Instr} (h : decodeImm w i = .instr j) :
    i (immOf w) = j ∧ idxOf w = 0 := by
  unfold decodeImm at h
  split at h
  · next hzero => exact ⟨Decoded.instr.inj h, hzero⟩
  · contradiction

/-- A word with this opcode and these fields is the word that `commandWord` builds of them. -/
theorem commandWord_eq {w : BitVec 32} {opc : Nat} {idx : BitVec 8} {imm : BitVec 16} (hopc : (opcodeOf w).toNat = opc)
    (hidx : idxOf w = idx) (himm : immOf w = imm) : commandWord (BitVec.ofNat 8 opc) idx imm = w := by
  rw [← hopc, BitVec.ofNat_toNat, BitVec.setWidth_eq, ← hidx, ← himm, commandWord_fields]

section
variable {w : BitVec 32} {i j : Instr} {opc : Nat}

theorem encode_of_decodeN (hopc : (opcodeOf w).toNat = opc) (hi : encode i = commandWord (BitVec.ofNat 8 opc) 0 0)
    (h : decodeN w i = .instr j) : encode j = w := by
  obtain ⟨rfl, hidx, himm⟩ := decodeN_eq_instr h
  exact hi.trans (commandWord_eq hopc hidx himm)

theorem encode_of_decodeIdx {f : BitVec 8 → Instr} (hopc : (opcodeOf w).toNat = opc)
    (hf : ∀ idx, encode (f idx) = commandWord (BitVec.ofNat 8 opc) idx 0) (h : decodeIdx w f = .instr j) :
    encode j = w := by
  obtain ⟨rfl, himm⟩ := decodeIdx_eq_instr h
  exact (hf _).trans (commandWord_eq hopc rfl himm)

theorem encode_of_decodeImm {f : BitVec 16 → Instr} (hopc : (opcodeOf w).toNat = opc)
    (hf : ∀ imm, encode (f imm) = commandWord (BitVec.ofNat 8 opc) 0 imm) (h : decodeImm w f = .instr j) :
    encode j = w := by
  obtain ⟨rfl, hidx⟩ := decodeImm_eq_instr h
  exact (hf _).trans (commandWord_eq hopc hidx rfl)

end

/-- A word that decodes to a command is that command's word: in each row of the opcode map, by the row's format. -/
theorem encode_of_decode {w : BitVec 32} {i : Instr} (h : decode w = .instr i) : encode i = w := by
  unfold decode at h
  split at h
  case h_2 hopc =>
    obtain rfl := Decoded.instr.inj h
    exact commandWord_eq hopc rfl rfl
  case h_3 hopc | h_6 hopc => exact encode_of_decodeIdx hopc (fun _ => rfl) h
  case h_7 hopc | h_15 hopc | h_16 hopc => exact encode_of_decodeImm hopc (fun _ => rfl) h
  case h_22 => contradiction
  case h_1 hopc | h_4 hopc | h_5 hopc | h_8 hopc | h_9 hopc | h_10 hopc | h_11 hopc | h_12 hopc | h_13 hopc | h_14 hopc
    | h_17 hopc | h_18 hopc | h_19 hopc | h_20 hopc | h_21 hopc => exact encode_of_decodeN hopc rfl h

/-! ### The decoder results -/

section
variable {s t : State} {i : Instr}

theorem Effect.bchErrcnt (h : Effect s i t) (hstart : i ≠ .start) (hstop : i ≠ .stop) (hreset : i ≠ .reset)
    (hbchdec : i ≠ .bchdec) : t.bchErrcnt = s.bchErrcnt := by
  cases h with
  | start _ _ => exact absurd rfl hstart
  | stop => exact absurd rfl hstop
  | reset => exact absurd rfl hreset
  | bchdec _ _ _ _ | bchdecFails _ _ _ _ => exact absurd rfl hbchdec
  | sync _ _ => rw [syncLoop_change _ _ _ _]; rfl
  | _ => rfl

theorem Effect.ldpcIter (h : Effect s i t) (hstart : i ≠ .start) (hstop : i ≠ .stop) (hreset : i ≠ .reset)
    (hldpcdec : i ≠ .ldpcdec) : t.ldpcIter = s.ldpcIter := by
  cases h with
  | start _ _ => exact absurd rfl hstart
  | stop => exact absurd rfl hstop
  | reset => exact absurd rfl hreset
  | ldpcdec _ _ _ _ => exact absurd rfl hldpcdec
  | sync _ _ => rw [syncLoop_change _ _ _ _]; rfl
  | _ => rfl

/-- A BCHDEC that is illegal or BUSY keeps `BCH_ERRCNT`. -/
theorem Effect.bchErrcnt_of_blocked (h : Effect s .bchdec t) (hblocked : s.session = .idle ∨ s.rb1 = none ∨ s.rb0.isSome) :
    t.bchErrcnt = s.bchErrcnt := by
  cases h with
  | bchdec hp hin hout _ | bchdecFails hp hin hout _ => simp [hp, hin, hout] at hblocked
  | _ => rfl

/-- An LDPCDEC that is illegal or BUSY keeps `LDPC_ITER`. -/
theorem Effect.ldpcIter_of_blocked (h : Effect s .ldpcdec t) (hblocked : s.session = .idle ∨ s.rb2 = none ∨ s.rb1.isSome) :
    t.ldpcIter = s.ldpcIter := by
  cases h with
  | ldpcdec hp hin hout _ => simp [hp, hin, hout] at hblocked
  | _ => rfl

/-- A START that does not begin a session keeps both registers. -/
theorem Effect.results_of_noStart (h : Effect s .start t)
    (hno : (∃ p, s.session = .active p) ∨ ∃ c, startCheck s = .error c) :
    t.bchErrcnt = s.bchErrcnt ∧ t.ldpcIter = s.ldpcIter := by
  cases h with
  | start hidle hcheck => simp [hidle, hcheck] at hno
  | _ => exact ⟨rfl, rfl⟩

end

theorem exec_start_ok {s : State} {r : ProfileRow} {taps : List Int} (hidle : s.session = .idle)
    (hcheck : startCheck s = .ok (r, taps)) :
    exec .start s = .next (respond 0x00 (BitVec.ofNat 32 (r.kbch / 8)) (beginSession (latchProfile s r taps) s)) := by
  simp only [exec, execStart, whenIdle_idle hidle, hcheck, respondOk_eq]

theorem exec_bchdec_bchErrcnt {s : State} {p : Prof} {y : TaggedFrame} (hp : s.session = .active p) (hin : s.rb1 = some y)
    (hout : s.rb0 = none) : ∃ t, exec .bchdec s = .next t ∧ t.bchErrcnt =
      match bchDecode (profField s.rom p) p.row.t y.bits with
      | some (_, e) => BitVec.ofNat 32 e
      | none => 0xFFFFFFFF := by
  simp only [exec, execBchdec, whenActive_active hp, hin, hout]
  cases bchDecode (profField s.rom p) p.row.t y.bits with
  | none => exact ⟨_, rfl, rfl⟩
  | some d => exact ⟨_, rfl, rfl⟩

theorem exec_ldpcdec_ldpcIter {s : State} {p : Prof} {l : List Llr} (hp : s.session = .active p) (hin : s.rb2 = some l)
    (hout : s.rb1 = none) : ∃ t, exec .ldpcdec s = .next t ∧
      t.ldpcIter = BitVec.ofNat 32 (ldpcDecode (profLdpc s.rom p) p.llrmax p.maxiter l).iterations := by
  simp only [exec, execLdpcdec, whenActive_active hp, hin, hout]
  exact ⟨_, rfl, rfl⟩

/-- A step of an agent other than the host's commands sets both registers to 0 where it ends the session, and else keeps
them. -/
theorem AgentEffect.results {s t : State} {a : AgentStep} (h : AgentEffect s a t) (hno : ∀ i, a ≠ .command (encode i)) :
    (a = .stopSignal ∨ a = .hardwareReset → t.bchErrcnt = 0 ∧ t.ldpcIter = 0) ∧
    (a ≠ .stopSignal → a ≠ .hardwareReset → t.bchErrcnt = s.bchErrcnt ∧ t.ldpcIter = s.ldpcIter) := by
  cases h with
  | command hword _ => exact absurd (congrArg _ (encode_of_decode hword).symm) (hno _)
  | stopSignal => exact ⟨fun _ => ⟨rfl, rfl⟩, fun h => absurd rfl h⟩
  | hardwareReset => exact ⟨fun _ => ⟨rfl, rfl⟩, fun _ h => absurd rfl h⟩
  | _ => exact ⟨by rintro (h | h) <;> contradiction, fun _ _ => ⟨rfl, rfl⟩⟩

/-- Settles O14: the effects that write the registers are those of START, STOP, RESET and the two decoders. -/
theorem decoderResultRegisters : Obligations.DecoderResultRegisters := by
  refine ⟨fun i s => ?commands, fun a s hno => ?agents, fun s hblocked => ?bchdecBlocked, fun s hblocked => ?ldpcdecBlocked,
    fun s p y => exec_bchdec_bchErrcnt, fun s p l => exec_ldpcdec_ldpcIter⟩
  case commands =>
    obtain ⟨_, _, t, hexec, heffect⟩ := exec_answers i s
    refine ⟨_, hexec, ?stops, ?starts, ?startFails, ?startActive, heffect.bchErrcnt, heffect.ldpcIter⟩
    case stops =>
      rintro (rfl | rfl)
      · rw [← Host.Outcome.next.inj hexec]; exact ⟨rfl, rfl⟩
      · rw [← Host.Outcome.next.inj hexec]; exact ⟨rfl, rfl⟩
    case starts =>
      rintro ⟨r, taps⟩ rfl hidle hcheck
      rw [exec_start_ok hidle hcheck] at hexec
      rw [← Host.Outcome.next.inj hexec]; exact ⟨rfl, rfl⟩
    case startFails =>
      rintro c rfl hcheck
      exact heffect.results_of_noStart (.inr ⟨c, hcheck⟩)
    case startActive =>
      rintro p rfl hp
      exact heffect.results_of_noStart (.inl ⟨p, hp⟩)
  case agents =>
    obtain ⟨t, hstep, heffect⟩ := agentStep_effect a s
    exact ⟨t, hstep, heffect.results hno⟩
  case bchdecBlocked =>
    obtain ⟨_, _, t, hexec, heffect⟩ := exec_answers .bchdec s
    exact ⟨_, hexec, heffect.bchErrcnt_of_blocked hblocked⟩
  case ldpcdecBlocked =>
    obtain ⟨_, _, t, hexec, heffect⟩ := exec_answers .ldpcdec s
    exact ⟨_, hexec, heffect.ldpcIter_of_blocked hblocked⟩

/-! ### What the status registers show -/

theorem exec_rdstat {s : State} {idx : BitVec 8} (hidx : idx.toNat ≤ 21) :
    exec (.rdstat idx) s = .next (respond 0x00 (statRead s idx.toNat) s) := by
  rw [exec, execRdstat, whenIndex_le hidx, respondOk_eq]

/-- A flag shows at its own bit and at no other. -/
theorem flagAt_getLsbD {i b : Nat} (f : Bool) (hi : i < 32) : (flagAt i f).getLsbD b = (f && decide (b = i)) := by
  cases f with
  | false => simp [flagAt]
  | true =>
    rw [flagAt, if_pos rfl, BitVec.natCast_eq_ofNat, BitVec.getLsbD_ofNat, Nat.one_shiftLeft, Nat.testBit_two_pow]
    grind

theorem ldpcUncorr_eq (s : State) : ldpcUncorr s = (s.rb1.map (·.uncorr)).getD false := by
  unfold ldpcUncorr
  split
  · next h => simp [h]
  · next h => simp [h]

/-- `ST_FLAGS` bit by bit (10_state.md R38): each flag at its position. -/
theorem stFlags_getLsbD (s : State) (b : Nat) : (stFlags s).getLsbD b =
    (s.tb0.isSome && decide (b = 0) || s.tb1.isSome && decide (b = 1) || s.tb2.isSome && decide (b = 2) ||
      s.tb3.isSome && decide (b = 3) || s.tb4.isSome && decide (b = 4) || s.tb5.isSome && decide (b = 5) ||
      s.rb0.isSome && decide (b = 8) || s.rb1.isSome && decide (b = 9) || s.rb2.isSome && decide (b = 10) ||
      s.rb3.isSome && decide (b = 11) || s.rb4.isSome && decide (b = 12) ||
      (s.rb1.map (·.uncorr)).getD false && decide (b = 16) || s.gap && decide (b = 17)) := by
  simp only [stFlags, BitVec.getLsbD_or, flagAt_getLsbD, Nat.ofNat_pos, Nat.reduceLT, ldpcUncorr_eq]

theorem stSession_eq (s : State) : stSession s = if s.session = .idle then 0 else 1 := by
  unfold stSession
  cases s.session with
  | idle => rfl
  | active p => rfl

theorem stSync_eq (s : State) : stSync s = if s.sync.mode = .locked then 1 else 0 := by
  unfold stSync
  cases s.sync.mode with
  | searching => rfl
  | locked => rfl

/-- Settles O21: RDSTAT by its preamble, `ST_FLAGS` bit by bit, every other register by its own row. -/
theorem statusRegistersRead : Obligations.StatusRegistersRead := by
  refine ⟨fun s idx => exec_rdstat, fun s => ?flags, fun s => ⟨stSession_eq s, stSync_eq s, rfl⟩⟩
  case flags =>
    have hbit : ∀ b, (statRead s 2).getLsbD b = (stFlags s).getLsbD b := fun _ => rfl
    simp [hbit, stFlags_getLsbD, List.range_succ]

/-! ### The commit of the estimates -/

/-- The synchronizer stands at the boundary of a frame, LOCKED, with the working estimates committed. -/
structure Closed (y : SyncState) : Prop where
  estFreq : y.estFreq = y.wDph
  estPhase : y.estPhase = y.wPhase.extractLsb' 16 16
  estTiming : y.estTiming = y.wTiming
  k : y.k = 0
  acc : y.acc = []
  mode : y.mode = .locked

theorem frameClose_of_empty {p : Prof} {r : SyncRun} (h : r.st.rb4 = none) : frameClose p r = { r with
    frame := true
    st := { r.st with
      rb4 := some r.st.sync.acc
      sync := commitEstimates { r.st.sync with acc := [], next := r.st.sync.next + ((p.lpl * p.sps : Nat) : Int), k := 0 } } } := by
  simp only [frameClose, h]

theorem frameClose_of_full {p : Prof} {r : SyncRun} {f : List Sample} (h : r.st.rb4 = some f) : frameClose p r = { r with
    dropped := true
    st := withSync
      (commitEstimates { r.st.sync with acc := [], next := r.st.sync.next + ((p.lpl * p.sps : Nat) : Int), k := 0 })
      (countDropped r.st) } := by
  simp only [frameClose, h]

theorem frameClose_closed (p : Prof) {r : SyncRun} (hmode : r.st.sync.mode = .locked) : Closed (frameClose p r).st.sync := by
  cases h : r.st.rb4 with
  | none => rw [frameClose_of_empty h]; exact ⟨rfl, rfl, rfl, rfl, rfl, hmode⟩
  | some f => rw [frameClose_of_full h]; exact ⟨rfl, rfl, rfl, rfl, rfl, hmode⟩

theorem takeSymbol_mode (rom : Rom) (hdr : List Sample) (p : Prof) (y : SyncState) :
    (takeSymbol rom hdr p y).mode = y.mode := by
  unfold takeSymbol
  cases symbolKind rom p y.k with
  | data n => rfl
  | header n => rfl
  | pilot b n => rfl

section
variable {hdr : List Sample} {p : Prof} {r r' : SyncRun}

theorem gapAction_frame (p : Prof) (r : SyncRun) : (gapAction p r).frame = r.frame := by
  unfold gapAction
  split
  · rfl
  · rfl

theorem searchStep_frame (hdr : List Sample) (p : Prof) (e : Nat) (r : SyncRun) :
    (searchStep hdr p e r).frame = r.frame := by
  obtain h | ⟨y, -, -, -, h⟩ := searchStep_cases hdr p e r
  · rw [h]
  · rw [h]

/-- Only the closing of a frame raises the flag FRAME. -/
theorem LockedEffect.closed (h : LockedEffect hdr p r r') (hmode : r.st.sync.mode = .locked) (hnone : r.frame = false)
    (hframe : r'.frame = true) : Closed r'.st.sync := by
  cases h with
  | close hy _ => exact frameClose_closed p (hy.mode.trans ((takeSymbol_mode ..).trans hmode))
  | wait | loss _ | symbol _ => exact absurd hframe (by simp [syncLoss, modifySync, hnone])

end

theorem SyncChange.rsp {s t : State} (h : SyncChange s t) : t.rsp = s.rsp := by
  rw [h]

/-- After a SYNC that delivered a frame the synchronizer stands at the frame's boundary. -/
theorem syncLoop_closed (hdr : List Sample) (p : Prof) (n : Nat) (s : State)
    (hframe : (syncLoop hdr p n (syncBegin s)).frame = true) : Closed (syncLoop hdr p n (syncBegin s)).st.sync := by
  refine syncLoop_keeps (J := fun r => r.frame = true → Closed r.st.sync) (fun r x rest _ hnone _ => ?sample) n nofun rfl hframe
  case sample =>
    exact consumeSample_keeps (I := fun r => r.frame = false) (fun r h => (gapAction_frame p r).trans h) (fun r x h => h)
      (fun r e h hframe => by rw [searchStep_frame, h] at hframe; contradiction)
      (fun r r' h hmode heffect => heffect.closed hmode h) hnone

theorem gapAction_consumed (p : Prof) (r : SyncRun) : (gapAction p r).consumed = r.consumed := by
  unfold gapAction
  split
  · rfl
  · rfl

theorem searchStep_consumed (hdr : List Sample) (p : Prof) (e : Nat) (r : SyncRun) :
    (searchStep hdr p e r).consumed = r.consumed := by
  obtain h | ⟨y, -, -, -, h⟩ := searchStep_cases hdr p e r
  · rw [h]
  · rw [h]

theorem LockedEffect.consumed {hdr : List Sample} {p : Prof} {r r' : SyncRun} (h : LockedEffect hdr p r r') :
    r'.consumed = r.consumed := by
  cases h with
  | @close y _ _ =>
    cases hrb4 : r.st.rb4 with
    | none => rw [frameClose_of_empty (r := modifySync (fun _ => y) r) hrb4]; rfl
    | some f => rw [frameClose_of_full (r := modifySync (fun _ => y) r) hrb4]; rfl
  | wait | loss _ | symbol _ => rfl

theorem consumeSample_consumed (hdr : List Sample) (p : Prof) (x : TaggedSample) (rest : List TaggedSample) (r : SyncRun) :
    (consumeSample hdr p x rest r).consumed = r.consumed + 1 :=
  consumeSample_keeps (I := fun r' => r'.consumed = r.consumed + 1) (J := fun r' => r'.consumed = r.consumed + 1)
    (fun r' h => (gapAction_consumed p r').trans h) (fun _ _ h => h) (fun r' e h => (searchStep_consumed hdr p e r').trans h)
    (fun _ _ h _ heffect => heffect.consumed.trans h) rfl

theorem syncLoop_consumed_le (hdr : List Sample) (p : Prof) (n : Nat) (r : SyncRun) :
    (syncLoop hdr p n r).consumed ≤ r.consumed + n := by
  induction n generalizing r with
  | zero => exact le_rfl
  | succ n ih =>
    unfold syncLoop
    split
    · omega
    · next x rest _ =>
      have hone := consumeSample_consumed hdr p x rest r
      dsimp only
      split
      · omega
      · have := ih (consumeSample hdr p x rest r)
        omega

/-- Bit 16 of SYNC's response is FRAME: the count of samples does not reach it (47_synchronizer.md R318). -/
theorem syncValue_frame {r : SyncRun} (h : r.consumed < 65536) : (syncValue r).getLsbD 16 = r.frame := by
  have hcount : (BitVec.ofNat 32 r.consumed).getLsbD 16 = false := by
    rw [BitVec.getLsbD_ofNat, Nat.testBit_lt_two_pow h, Bool.and_false]
  simp only [syncValue, BitVec.getLsbD_or, hcount, flagAt_getLsbD, Nat.reduceLT, Nat.reduceEqDiff, decide_true, decide_false,
    Bool.and_true, Bool.and_false, Bool.false_or, Bool.or_false]

theorem exec_sync {s : State} {p : Prof} {n : BitVec 16} (hp : s.session = .active p) (hn : n.toNat ≠ 0) :
    exec (.sync n) s = .next (respond 0x00 (syncValue (syncLoop (profHeader s.rom p) p n.toNat (syncBegin s)))
      (syncLoop (profHeader s.rom p) p n.toNat (syncBegin s)).st) := by
  rw [exec, execSync, whenCount_ne hn, whenActive_active hp, respondOk_eq]

/-- Settles O46: `frame_close()` by its two cases, and the loop of SYNC, which raises FRAME nowhere else. -/
theorem frameCommitsEstimates : Obligations.FrameCommitsEstimates := by
  refine ⟨fun s p n hp hn => ?sync, ?close⟩
  case sync =>
    have hcount : (syncLoop (profHeader s.rom p) p n.toNat (syncBegin s)).consumed < 65536 := by
      have hle := syncLoop_consumed_le (profHeader s.rom p) p n.toNat (syncBegin s)
      have hzero : (syncBegin s).consumed = 0 := rfl
      have := n.isLt
      omega
    refine ⟨_, syncValue (syncLoop (profHeader s.rom p) p n.toNat (syncBegin s)), exec_sync hp hn, ?_, fun hframe => ?_⟩
    · rw [respond_rsp, (syncLoop_change _ _ _ _).rsp]
      rfl
    · rw [syncValue_frame hcount] at hframe
      obtain ⟨hfreq, hphase, htiming, hk, hacc, hmode⟩ := syncLoop_closed _ _ _ _ hframe
      exact ⟨hfreq, hphase, htiming, hk, hacc, hmode⟩
  case close =>
    rintro p r y rfl
    exact ⟨frameClose_of_empty, fun f => frameClose_of_full⟩

end Sys2Proof.Machine
end

section
/-! PROOFS of the family 20_memory.md: the two chains share no mutable state (R80 item 3). Each statement compares a run from `s`
with a run from a state that agrees with `s` on one chain; such a state is written as an overlay, so that the two runs take the
same branches by computation. -/

namespace Sys2Proof.Machine

open Sys2Proof.Safety

/-! ### Two states that agree on a chain -/

/-- The two chains (20_memory.md R80). -/
inductive Chain where
  | transmit
  | receive

namespace Chain

/-- The part of the state that is the chain's. -/
def part : Chain → State → State
  | transmit => txPart
  | receive => rxPart

/-- The part of the state that is the other chain's. -/
def otherPart : Chain → State → State
  | transmit => rxPart
  | receive => txPart

/-- The state `a` with the chain's part of `s` put in. -/
def overlay (c : Chain) (s a : State) : State :=
  match c with
  | transmit => { a with
      rom := s.rom, session := s.session, bbin := s.bbin, radioTx := s.radioTx
      tb0 := s.tb0, tb1 := s.tb1, tb2 := s.tb2, tb3 := s.tb3, tb4 := s.tb4, tb5 := s.tb5
      txdl := s.txdl, txq := s.txq, cntTxerr := s.cntTxerr, cntUnderrun := s.cntUnderrun }
  | receive => { a with
      rom := s.rom, session := s.session, bbout := s.bbout, bboutReady := s.bboutReady
      rb4 := s.rb4, rb3 := s.rb3, rb2 := s.rb2, rb1 := s.rb1, rb0 := s.rb0
      rxdl := s.rxdl, rxq := s.rxq, mfq := s.mfq, gap := s.gap, gapLen := s.gapLen, sync := s.sync
      bchErrcnt := s.bchErrcnt, ldpcIter := s.ldpcIter
      cntUncorr := s.cntUncorr, cntSyncloss := s.cntSyncloss, cntOverrun := s.cntOverrun
      cntLdpcfail := s.cntLdpcfail, cntDropped := s.cntDropped }

variable (c : Chain)

@[simp] theorem part_overlay (s a : State) : c.part (c.overlay s a) = c.part s := by
  cases c with
  | transmit => rfl
  | receive => rfl

@[simp] theorem overlay_part (s a : State) : c.overlay (c.part s) a = c.overlay s a := by
  cases c with
  | transmit => rfl
  | receive => rfl

@[simp] theorem overlay_self (s : State) : c.overlay s s = s := by
  cases c with
  | transmit => rfl
  | receive => rfl

@[simp] theorem overlay_session (s a : State) : (c.overlay s a).session = s.session := by
  cases c with
  | transmit => rfl
  | receive => rfl

@[simp] theorem part_respond (status : BitVec 8) (value : BitVec 32) (s : State) :
    c.part (respond status value s) = c.part s := by
  cases c with
  | transmit => rfl
  | receive => rfl

@[simp] theorem otherPart_respond (status : BitVec 8) (value : BitVec 32) (s : State) :
    c.otherPart (respond status value s) = c.otherPart s := by
  cases c with
  | transmit => rfl
  | receive => rfl

/-- A state that agrees with `s` on the chain is one with the chain's part of `s` put in. -/
theorem eq_overlay_of_part_eq {s s' : State} (h : c.part s = c.part s') : s' = c.overlay s s' :=
  calc s' = c.overlay (c.part s') s' := by rw [overlay_part, overlay_self]
    _ = c.overlay s s' := by rw [← h, overlay_part]

end Chain

/-! ### Isolated effects and outcomes -/

/-- A command, before its response record, took `s` to `t` and the overlay of `s` on `a` to `t'`: the chain `c` ends the same in
both, and the other chain is left alone. -/
structure IsolatedEffect (c : Chain) (s a t t' : State) : Prop where
  part : c.part t = c.part t'
  otherPart : c.otherPart t = c.otherPart s
  rsp : t.rsp = s.rsp
  rsp_overlay : t'.rsp = (c.overlay s a).rsp

/-- The outcome `x` from `s` and the outcome `x'` from the overlay of `s` on `a` are isolated in the chain `c`: next states with the
same response record and the same part of the chain, the other chain left alone. -/
def Isolated (c : Chain) (s a : State) (x x' : StepResult) : Prop :=
  ∃ t t' r, x = .next t ∧ x' = .next t' ∧ t.rsp = s.rsp ++ [r] ∧ t'.rsp = (c.overlay s a).rsp ++ [r] ∧
    c.part t = c.part t' ∧ c.otherPart t = c.otherPart s

section
variable {c : Chain} {s a t t' : State}

theorem IsolatedEffect.respond (h : IsolatedEffect c s a t t') (status : BitVec 8) (value : BitVec 32) :
    Isolated c s a (.next (respond status value t)) (.next (respond status value t')) := by
  refine ⟨_, _, ⟨status, value⟩, rfl, rfl, ?_, ?_, ?_, ?_⟩
  · rw [respond_rsp, h.rsp]
  · rw [respond_rsp, h.rsp_overlay]
  · rw [c.part_respond, c.part_respond, h.part]
  · rw [c.otherPart_respond, h.otherPart]

theorem isolated_ok (v : BitVec 32) (h : IsolatedEffect c s a t t') : Isolated c s a (respondOk v t) (respondOk v t') :=
  h.respond _ _

theorem isolated_busy : Isolated c s a (respondBusy s) (respondBusy (c.overlay s a)) :=
  IsolatedEffect.respond ⟨(c.part_overlay s a).symm, rfl, rfl, rfl⟩ _ _

theorem isolated_fail {e : Exc} (h : IsolatedEffect c s a (raiseExc e t) (raiseExc e t')) :
    Isolated c s a (failWith e t) (failWith e t') :=
  h.respond _ _

/-- IllegalCommand counts in neither chain. -/
theorem isolated_illegal (k : IllegalCause) :
    Isolated c s a (failWith (.illegalCommand k) s) (failWith (.illegalCommand k) (c.overlay s a)) := by
  cases c with
  | transmit => exact isolated_fail ⟨rfl, rfl, rfl, rfl⟩
  | receive => exact isolated_fail ⟨rfl, rfl, rfl, rfl⟩

/-- The session, profile included, is in the part of either chain. -/
theorem isolated_whenActive {f f' : Prof → StepResult} (hf : ∀ p, Isolated c s a (f p) (f' p)) :
    Isolated c s a (whenActive s f) (whenActive (c.overlay s a) f') := by
  cases hs : s.session with
  | idle =>
    rw [whenActive_idle hs, whenActive_idle ((c.overlay_session s a).trans hs)]
    exact isolated_illegal _
  | active p =>
    rw [whenActive_active hs, whenActive_active ((c.overlay_session s a).trans hs)]
    exact hf p

theorem isolated_whenCount {n : BitVec 16} {x x' : StepResult} (hx : Isolated c s a x x') :
    Isolated c s a (whenCount n s x) (whenCount n (c.overlay s a) x') := by
  by_cases hn : n.toNat = 0
  · rw [whenCount_zero hn, whenCount_zero hn]
    exact isolated_illegal _
  · rw [whenCount_ne hn, whenCount_ne hn]
    exact hx

theorem isolated_ite {q : Prop} [Decidable q] {x x' y y' : StepResult} (hx : Isolated c s a x x') (hy : Isolated c s a y y') :
    Isolated c s a (if q then x else y) (if q then x' else y') := by
  by_cases hq : q
  · rw [if_pos hq, if_pos hq]; exact hx
  · rw [if_neg hq, if_neg hq]; exact hy

end

/-! ### The transmit chain -/

theorem execLdbb_isolated (s a : State) : Isolated .transmit s a (execLdbb s) (execLdbb (Chain.transmit.overlay s a)) := by
  refine isolated_whenActive fun p => ?_
  dsimp only [Chain.overlay]
  split
  · refine isolated_ite (isolated_fail ?short) (isolated_ite (isolated_fail ?long) (isolated_ok _ ?fits))
    case short | long | fits => exact ⟨rfl, rfl, rfl, rfl⟩
  · exact isolated_busy

theorem execShape_isolated (s a : State) : Isolated .transmit s a (execShape s) (execShape (Chain.transmit.overlay s a)) := by
  refine isolated_whenActive fun p => ?_
  dsimp only [Chain.overlay]
  split
  · refine isolated_ite (isolated_ok _ ?_) isolated_busy
    exact ⟨rfl, rfl, rfl, rfl⟩
  · exact isolated_busy

/-- The five stages between LDBB and SHAPE pass one frame from a FULL buffer to an EMPTY one, or answer BUSY. -/
theorem exec_isolated_of_isTransmit {i : Instr} (hi : isTransmit i = true) (s a : State) :
    Isolated .transmit s a (exec i s) (exec i (Chain.transmit.overlay s a)) := by
  cases i with
  | ldbb => exact execLdbb_isolated s a
  | shape => exact execShape_isolated s a
  | bchenc | ldpcenc | ilv | map | plfrm =>
    refine isolated_whenActive fun p => ?_
    dsimp only [Chain.overlay]
    split
    · exact isolated_ok _ ⟨rfl, rfl, rfl, rfl⟩
    · exact isolated_busy
  | reset | cfgw _ _ | cfgr _ | start | stop | rdstat _ | clrev _ | mfilt _ | sync _ | demap | deilv | ldpcdec | bchdec
  | stbb => contradiction

/-- Settles O51: the second state is an overlay of the first, and each of the seven commands is isolated from it. -/
theorem transmitIsolated : Obligations.TransmitIsolated := by
  intro i s s' hi h
  rw [Chain.transmit.eq_overlay_of_part_eq h]
  exact exec_isolated_of_isTransmit hi s s'

/-! ### SYNC reads and writes the receive chain alone -/

/-- The run `r` with the receive chain's part of its state put into `a`. -/
def graft (a : State) (r : SyncRun) : SyncRun := { r with st := Chain.receive.overlay r.st a }

/-- The operation `f` of SYNC depends on the receive chain alone: on a run with another rest of the state it does the same. Its own
changes of that rest (`ST_EVENT` and `ST_LASTERR`, which are in neither chain) give the new rest `b`. -/
def ReceiveOnly (f : SyncRun → SyncRun) : Prop := ∀ r a, ∃ b, f (graft a r) = graft b (f r)

theorem graft_ite {q : Prop} [Decidable q] {x x' y y' : SyncRun} (hx : ∃ b, x' = graft b x) (hy : ∃ b, y' = graft b y) :
    ∃ b, (if q then x' else y') = graft b (if q then x else y) := by
  by_cases hq : q
  · rw [if_pos hq, if_pos hq]; exact hx
  · rw [if_neg hq, if_neg hq]; exact hy

theorem ReceiveOnly.comp {f g : SyncRun → SyncRun} (hf : ReceiveOnly f) (hg : ReceiveOnly g) : ReceiveOnly (f ∘ g) := by
  intro r a
  obtain ⟨b, hb⟩ := hg r a
  obtain ⟨d, hd⟩ := hf (g r) b
  exact ⟨d, (congrArg f hb).trans hd⟩

theorem gapAction_receiveOnly (p : Prof) : ReceiveOnly (gapAction p) := by
  intro r a
  dsimp only [gapAction, graft, Chain.overlay]
  split
  · exact ⟨countDropped a, rfl⟩
  · exact ⟨a, rfl⟩

theorem searchStep_receiveOnly (hdr : List Sample) (p : Prof) (e : Nat) : ReceiveOnly (searchStep hdr p e) := by
  intro r a
  exact graft_ite ⟨a, rfl⟩ (graft_ite ⟨{ a with event := withEvent .lock a.event }, rfl⟩ ⟨a, rfl⟩)

theorem frameClose_receiveOnly (p : Prof) : ReceiveOnly (frameClose p) := by
  intro r a
  dsimp only [frameClose, graft, Chain.overlay]
  split
  · exact ⟨countDropped a, rfl⟩
  · exact ⟨a, rfl⟩

theorem headerEnd_graft (p : Prof) (r : SyncRun) (a : State) :
    ∃ b, headerEnd p (graft a r) = (graft b (headerEnd p r).1, (headerEnd p r).2) := by
  dsimp only [headerEnd, graft, Chain.overlay]
  split
  · split
    · exact ⟨raiseExc .synchronizationLoss a, rfl⟩
    · exact ⟨a, rfl⟩
  · exact ⟨a, rfl⟩

theorem blockEnd_graft (p : Prof) (kd : SymbolKind) (r : SyncRun) (a : State) :
    ∃ b, blockEnd p kd (graft a r) = (graft b (blockEnd p kd r).1, (blockEnd p kd r).2) := by
  cases kd with
  | header n => exact headerEnd_graft p r a
  | data n => exact ⟨a, rfl⟩
  | pilot b n => exact ⟨a, rfl⟩

/-- What a symbol instant does once the symbol is taken: the end of the block where one stands, then, unless the synchronizer
lost lock there, the closing of the frame after its last symbol (47_synchronizer.md R323). -/
def afterSymbol (atEnd : Bool) (p : Prof) (kd : SymbolKind) (r : SyncRun) : SyncRun :=
  let b := if atEnd then blockEnd p kd r else (r, false)
  if b.2 then b.1 else if b.1.st.sync.k = p.lpl then frameClose p b.1 else b.1

theorem lockedStep_eq_afterSymbol (hdr : List Sample) (p : Prof) (e : Nat) (r : SyncRun) :
    lockedStep hdr p e r =
      if (e : Int) ≠ r.st.sync.next + ((r.st.sync.k * p.sps + 1 : Nat) : Int) then r
      else afterSymbol (atBlockEnd r.st.rom p (symbolKind r.st.rom p r.st.sync.k) (r.st.sync.k + 1)) p
        (symbolKind r.st.rom p r.st.sync.k) (modifySync (takeSymbol r.st.rom hdr p) r) := rfl

theorem afterSymbol_receiveOnly (atEnd : Bool) (p : Prof) (kd : SymbolKind) : ReceiveOnly (afterSymbol atEnd p kd) := by
  intro r a
  have hend : ∃ b, (if atEnd then blockEnd p kd (graft a r) else (graft a r, false)) =
      (graft b (if atEnd then blockEnd p kd r else (r, false)).1, (if atEnd then blockEnd p kd r else (r, false)).2) := by
    cases atEnd with
    | true => exact blockEnd_graft p kd r a
    | false => exact ⟨a, rfl⟩
  obtain ⟨b, hb⟩ := hend
  unfold afterSymbol
  rw [hb]
  exact graft_ite ⟨b, rfl⟩ (graft_ite (frameClose_receiveOnly p _ b) ⟨b, rfl⟩)

theorem lockedStep_receiveOnly (hdr : List Sample) (p : Prof) (e : Nat) : ReceiveOnly (lockedStep hdr p e) := by
  intro r a
  rw [lockedStep_eq_afterSymbol, lockedStep_eq_afterSymbol]
  exact graft_ite ⟨a, rfl⟩ (afterSymbol_receiveOnly _ p _ (modifySync (takeSymbol r.st.rom hdr p) r) a)

section
variable {hdr : List Sample} {p : Prof} {x : Sample} {r : SyncRun}

theorem sampleStep_searching (h : r.st.sync.mode = .searching) :
    sampleStep hdr p x r = searchStep hdr p r.st.sync.pos (modifySync (windowIn x) r) := by simp only [sampleStep, h]

theorem sampleStep_locked (h : r.st.sync.mode = .locked) :
    sampleStep hdr p x r = lockedStep hdr p r.st.sync.pos (modifySync (windowIn x) r) := by simp only [sampleStep, h]

theorem syncLoop_nil (n : Nat) (h : r.st.mfq = []) : syncLoop hdr p n r = r := by
  cases n with
  | zero => rfl
  | succ n => simp only [syncLoop, h]

theorem syncLoop_cons {x : TaggedSample} {rest : List TaggedSample} (n : Nat) (h : r.st.mfq = x :: rest) :
    syncLoop hdr p (n + 1) r = if (consumeSample hdr p x rest r).frame then consumeSample hdr p x rest r
      else syncLoop hdr p n (consumeSample hdr p x rest r) := by
  simp only [syncLoop, h]

end

theorem sampleStep_receiveOnly (hdr : List Sample) (p : Prof) (x : Sample) : ReceiveOnly (sampleStep hdr p x) := by
  intro r a
  cases hmode : r.st.sync.mode with
  | searching =>
    rw [sampleStep_searching hmode, sampleStep_searching (r := graft a r) hmode]
    exact searchStep_receiveOnly hdr p _ (modifySync (windowIn x) r) a
  | locked =>
    rw [sampleStep_locked hmode, sampleStep_locked (r := graft a r) hmode]
    exact lockedStep_receiveOnly hdr p _ (modifySync (windowIn x) r) a

theorem consumeSample_receiveOnly (hdr : List Sample) (p : Prof) (x : TaggedSample) (rest : List TaggedSample) :
    ReceiveOnly (consumeSample hdr p x rest) := by
  have hsample := sampleStep_receiveOnly hdr p x.sample
  intro r a
  unfold consumeSample
  cases x.gap with
  | true => exact hsample.comp (gapAction_receiveOnly p) { r with st := { r.st with mfq := rest }, consumed := r.consumed + 1 } a
  | false => exact hsample { r with st := { r.st with mfq := rest }, consumed := r.consumed + 1 } a

theorem syncLoop_receiveOnly (hdr : List Sample) (p : Prof) (n : Nat) : ReceiveOnly (syncLoop hdr p n) := by
  induction n with
  | zero => exact fun r a => ⟨a, rfl⟩
  | succ n ih =>
    intro r a
    cases hq : r.st.mfq with
    | nil => exact ⟨a, by rw [syncLoop_nil _ hq, syncLoop_nil (r := graft a r) _ hq]⟩
    | cons x rest =>
      obtain ⟨b, hb⟩ := consumeSample_receiveOnly hdr p x rest r a
      rw [syncLoop_cons n hq, syncLoop_cons (r := graft a r) n hq, hb]
      exact graft_ite ⟨b, rfl⟩ (ih _ b)

/-! ### The receive chain -/

/-- SYNC changes nothing of the transmit chain. -/
theorem SyncChange.txPart {s t : State} (h : SyncChange s t) : txPart t = txPart s := by
  rw [h]
  rfl

theorem execSync_isolated (n : BitVec 16) (s a : State) :
    Isolated .receive s a (execSync n s) (execSync n (Chain.receive.overlay s a)) := by
  refine isolated_whenCount (isolated_whenActive fun p => ?_)
  obtain ⟨b, hb⟩ := syncLoop_receiveOnly (profHeader s.rom p) p n.toNat (syncBegin s) a
  have hchange := syncLoop_change (profHeader s.rom p) p n.toNat (syncBegin s)
  have hrsp := (syncLoop_change (profHeader s.rom p) p n.toNat (graft a (syncBegin s))).rsp
  generalize syncLoop (profHeader s.rom p) p n.toNat (syncBegin s) = r at hb hchange ⊢
  rw [hb] at hrsp
  have heffect : IsolatedEffect .receive s a r.st (graft b r).st :=
    ⟨(Chain.receive.part_overlay r.st b).symm, hchange.txPart, hchange.rsp, hrsp⟩
  exact hb ▸ isolated_ok (syncValue r) heffect

theorem execMfilt_isolated (n : BitVec 16) (s a : State) :
    Isolated .receive s a (execMfilt n s) (execMfilt n (Chain.receive.overlay s a)) := by
  refine isolated_whenCount (isolated_whenActive fun p => isolated_ite (isolated_ok _ ?_) isolated_busy)
  exact ⟨rfl, rfl, rfl, rfl⟩

theorem execBchdec_isolated (s a : State) : Isolated .receive s a (execBchdec s) (execBchdec (Chain.receive.overlay s a)) := by
  refine isolated_whenActive fun p => ?_
  dsimp only [Chain.overlay]
  split
  · split
    · exact isolated_ok _ ⟨rfl, rfl, rfl, rfl⟩
    · exact isolated_fail ⟨rfl, rfl, rfl, rfl⟩
  · exact isolated_busy

/-- The stages DEMAP, DEILV, LDPCDEC and STBB pass one frame on, or answer BUSY. -/
theorem exec_isolated_of_isReceive {i : Instr} (hi : isReceive i = true) (s a : State) :
    Isolated .receive s a (exec i s) (exec i (Chain.receive.overlay s a)) := by
  cases i with
  | mfilt n => exact execMfilt_isolated n s a
  | sync n => exact execSync_isolated n s a
  | bchdec => exact execBchdec_isolated s a
  | demap | deilv | ldpcdec | stbb =>
    refine isolated_whenActive fun p => ?_
    dsimp only [Chain.overlay]
    split
    · exact isolated_ok _ ⟨rfl, rfl, rfl, rfl⟩
    · exact isolated_busy
  | reset | cfgw _ _ | cfgr _ | start | stop | rdstat _ | clrev _ | ldbb | bchenc | ldpcenc | ilv | map | plfrm
  | shape => contradiction

/-- Settles O52: the second state is an overlay of the first, and each of the seven commands is isolated from it. -/
theorem receiveIsolated : Obligations.ReceiveIsolated := by
  intro i s s' hi h
  rw [Chain.receive.eq_overlay_of_part_eq h]
  exact exec_isolated_of_isReceive hi s s'

end Sys2Proof.Machine
end

section
/-! PROOFS of the family 30_encoding.md: the decoder and the encoder undo each other (R100, R103), the checks of a command word in
their order (R104), and the one response record of every command (R101). -/

namespace Sys2Proof.Machine

open Sys2Proof.Safety

/-! ### The decoder and the encoder -/

theorem decodeTableWord_of_decode {w : BitVec 32} {i : Instr} (h : decode w = .instr i) :
    decodeTableWord 32 w.toNat = some i := by
  have hword : BitVec.ofNat 32 (w.toNat % 2 ^ 32) = w := by
    rw [Nat.mod_eq_of_lt w.isLt, BitVec.ofNat_toNat, BitVec.setWidth_eq]
  simp only [decodeTableWord, hword, h]

/-- Settles O1: the decoder undoes the encoder, and a 32-bit word read as an instruction's bits is the word itself. -/
theorem decodeOfEncode : Obligations.DecodeOfEncode :=
  fun i => ⟨decode_encode i, decodeTableWord_of_decode (decode_encode i)⟩

/-- Settles O2, row by row of the opcode map: a legal word has no bit but its opcode and its operands. -/
theorem encodeOfDecode : Obligations.EncodeOfDecode := fun _ _ => encode_of_decode

/-- Settles O3: each of the eight words is the encoding of the command beside it, which the decoder reads back. -/
theorem writtenWordsDecode : Obligations.WrittenWordsDecode :=
  ⟨decode_encode (.cfgw 0 0x7F), decode_encode (.cfgw 1 35), decode_encode (.rdstat 18), decode_encode (.clrev 0x40),
    decode_encode .ldpcenc, decode_encode (.mfilt 699), decode_encode (.sync 65535), decode_encode .stbb⟩

/-! ### The checks of a decoded command -/

/-- The column "needs SESSION" of 30_encoding.md R103, for a decoded command. -/
def needsOf : Instr → Needs
  | .cfgw _ _ | .start => .idle
  | .reset | .cfgr _ | .stop | .rdstat _ | .clrev _ => .any
  | .ldbb | .bchenc | .ldpcenc | .ilv | .map | .plfrm | .shape | .mfilt _ | .sync _ | .demap | .deilv | .ldpcdec | .bchdec
  | .stbb => .active

/-- What is wrong with the operand of an ill-formed command: the count of MFILT and SYNC, else the index. -/
def operandCause : Instr → IllegalCause
  | .mfilt _ | .sync _ => .zeroCount
  | _ => .badIndex

/-- The first of checks 3 to 5 of 30_encoding.md R104 that a decoded command fails. `firstFailure_encode` ties it to the checks of
the command's word, `exec_verdict` to the command's meaning. -/
def commandFailure (i : Instr) (s : State) : Option IllegalCause :=
  if !i.wellFormed then some (operandCause i)
  else if !sessionOk (needsOf i) s.session then some .wrongState
  else none

section
variable {i : Instr} {s : State}

theorem commandFailure_illFormed (h : i.wellFormed = false) : commandFailure i s = some (operandCause i) := by
  simp [commandFailure, h]

theorem commandFailure_wrongSession (h : i.wellFormed = true) (hsession : sessionOk (needsOf i) s.session = false) :
    commandFailure i s = some .wrongState := by simp [commandFailure, h, hsession]

theorem commandFailure_none (h : i.wellFormed = true) (hsession : sessionOk (needsOf i) s.session = true) :
    commandFailure i s = none := by simp [commandFailure, h, hsession]

theorem sessionOk_of_any (h : needsOf i = .any) : sessionOk (needsOf i) s.session = true := by
  rw [h]
  rfl

theorem sessionOk_of_active {p : Prof} (h : needsOf i = .active) (hp : s.session = .active p) :
    sessionOk (needsOf i) s.session = true := by
  rw [h, hp]
  rfl

/-- Only commands that need ACTIVE have an enabling condition (40_session_control.md R143). -/
theorem enabled_of_needsOf_ne_active (h : needsOf i ≠ .active) : enabled i s = true := by
  cases hsession : s.session with
  | idle => simp only [enabled, hsession]
  | active p =>
    cases i with
    | reset | cfgw _ _ | cfgr _ | start | stop | rdstat _ | clrev _ => simp only [enabled, hsession]
    | _ => exact absurd rfl h

end

/-! ### What a command answers -/

/-- The outcome is a next state with one more response record, whose status is OK or 0x80 plus the code of an exception
other than IllegalCommand (30_encoding.md R101). -/
def Completes (s : State) (x : StepResult) : Prop :=
  ∃ t r, x = .next t ∧ t.rsp = s.rsp ++ [r] ∧ r.status ∈ [0x00, 0x81, 0x82, 0x86]

/-- The three ways a command that decodes can end: illegal, BUSY, or executed (30_encoding.md R104 checks 3 to 7). -/
inductive Verdict (s : State) (i : Instr) : StepResult → Prop
  | illegal {c : IllegalCause} (hfail : commandFailure i s = some c) : Verdict s i (failWith (.illegalCommand c) s)
  | busy (hok : commandFailure i s = none) (hblocked : enabled i s = false) : Verdict s i (respondBusy s)
  | executed {x : StepResult} (hok : commandFailure i s = none) (henabled : enabled i s = true) (hx : Completes s x) :
      Verdict s i x

section
variable {s t : State} {i : Instr}

theorem completes_ok (h : t.rsp = s.rsp) (v : BitVec 32) : Completes s (respondOk v t) :=
  ⟨_, ⟨0x00, v⟩, rfl, by rw [respond_rsp, h], by simp⟩

theorem completes_fail {e : Exc} (h : t.rsp = s.rsp) (he : 0x80 + excCode e ∈ [0x00, 0x81, 0x82, 0x86]) :
    Completes s (failWith e t) :=
  ⟨_, ⟨0x80 + excCode e, (excSub e).setWidth 32⟩, rfl, by rw [respond_rsp, raiseExc_rsp, h], he⟩

/-- A command that is legal in every session and has no enabling condition. -/
theorem verdict_always {x : StepResult} (hwf : i.wellFormed = true) (hneeds : needsOf i = .any) (hx : Completes s x) :
    Verdict s i x :=
  .executed (commandFailure_none hwf (sessionOk_of_any hneeds)) (enabled_of_needsOf_ne_active (by simp [hneeds])) hx

theorem verdict_whenIdle {x : StepResult} (hwf : i.wellFormed = true) (hneeds : needsOf i = .idle)
    (hx : s.session = .idle → Completes s x) : Verdict s i (whenIdle s x) := by
  obtain ⟨hidle, e⟩ | ⟨p, hp, e⟩ := whenIdle_cases s x
  · rw [e]
    have hok := commandFailure_none (s := s) hwf (by rw [hneeds, hidle]; rfl)
    exact .executed hok (enabled_of_needsOf_ne_active (by simp [hneeds])) (hx hidle)
  · rw [e]
    exact .illegal (commandFailure_wrongSession hwf (by rw [hneeds, hp]; rfl))

theorem verdict_whenActive {f : Prof → StepResult} (hwf : i.wellFormed = true) (hneeds : needsOf i = .active)
    (hf : ∀ p, s.session = .active p → commandFailure i s = none → Verdict s i (f p)) : Verdict s i (whenActive s f) := by
  obtain ⟨hidle, e⟩ | ⟨p, hp, e⟩ := whenActive_cases s f
  · rw [e]
    exact .illegal (commandFailure_wrongSession hwf (by rw [hneeds, hidle]; rfl))
  · rw [e]
    exact hf p hp (commandFailure_none hwf (sessionOk_of_active hneeds hp))

theorem verdict_whenIndex {idx : BitVec 8} {last : Nat} {x : StepResult} (hwf : i.wellFormed = decide (idx.toNat ≤ last))
    (hcause : operandCause i = .badIndex) (hx : i.wellFormed = true → Verdict s i x) :
    Verdict s i (whenIndex idx last s x) := by
  by_cases hidx : idx.toNat ≤ last
  · rw [whenIndex_le hidx]
    exact hx (by simp [hwf, hidx])
  · rw [whenIndex_gt (not_le.1 hidx), ← hcause]
    exact .illegal (commandFailure_illFormed (by simp [hwf, hidx]))

theorem verdict_whenCount {n : BitVec 16} {x : StepResult} (hwf : i.wellFormed = decide (n.toNat ≠ 0))
    (hcause : operandCause i = .zeroCount) (hx : i.wellFormed = true → Verdict s i x) : Verdict s i (whenCount n s x) := by
  by_cases hn : n.toNat = 0
  · rw [whenCount_zero hn, ← hcause]
    exact .illegal (commandFailure_illFormed (by simp [hwf, hn]))
  · rw [whenCount_ne hn]
    exact hx (by simp [hwf, hn])

end

/-- The enabling condition of a stage that passes one frame on fails where its match finds no frame or no room. -/
theorem isSome_and_isNone_eq_false {α β : Type} {a : Option α} {b : Option β} (h : ∀ u, a = some u → b = none → False) :
    (a.isSome && b.isNone) = false := by
  cases a with
  | none => rfl
  | some u => cases b with
    | none => exact (h u rfl rfl).elim
    | some v => rfl

theorem execStart_verdict (s : State) : Verdict s .start (execStart s) := by
  refine verdict_whenIdle rfl rfl fun _ => ?_
  split
  · exact completes_fail rfl (by simp [excCode])
  · exact completes_ok rfl _

theorem execLdbb_verdict (s : State) : Verdict s .ldbb (execLdbb s) := by
  refine verdict_whenActive rfl rfl fun p hp hok => ?_
  split
  · next c rest hout hin =>
    refine .executed hok (by simp [enabled, hp, hout, hin]) ?_
    split
    · exact completes_fail rfl (by simp [excCode])
    · split
      · exact completes_fail rfl (by simp [excCode])
      · exact completes_ok rfl _
  · next hblocked =>
    refine .busy hok ?_
    cases hout : s.tb0 with
    | some u => simp [enabled, hp, hout]
    | none => cases hin : s.bbin with
      | nil => simp [enabled, hp, hin]
      | cons c rest => exact (hblocked c rest hout hin).elim

theorem execShape_verdict (s : State) : Verdict s .shape (execShape s) := by
  refine verdict_whenActive rfl rfl fun p hp hok => ?_
  split
  · next f hin =>
    split
    · next hroom => exact .executed hok (by simp [enabled, hp, hin, hroom]) (completes_ok rfl _)
    · next hfull => exact .busy hok (by simp [enabled, hp, hin, hfull])
  · next hin => exact .busy hok (by simp [enabled, hp, hin])

theorem execMfilt_verdict (n : BitVec 16) (s : State) : Verdict s (.mfilt n) (execMfilt n s) := by
  refine verdict_whenCount rfl rfl fun hwf => verdict_whenActive hwf rfl fun p hp hok => ?_
  have henabled : enabled (.mfilt n) s = decide (n.toNat ≤ s.rxq.length ∧ s.mfq.length + n.toNat ≤ s.rom.rxqDepth) := by
    simp [enabled, hp]
  split
  · next h => exact .executed hok (by simp [henabled, h]) (completes_ok rfl _)
  · next h => exact .busy hok (by simp [henabled, h])

theorem execSync_verdict (n : BitVec 16) (s : State) : Verdict s (.sync n) (execSync n s) := by
  refine verdict_whenCount rfl rfl fun hwf => verdict_whenActive hwf rfl fun p hp hok => ?_
  have hchange := syncLoop_change (profHeader s.rom p) p n.toNat (syncBegin s)
  exact .executed hok (by simp [enabled, hp]) (completes_ok hchange.rsp _)

theorem execBchdec_verdict (s : State) : Verdict s .bchdec (execBchdec s) := by
  refine verdict_whenActive rfl rfl fun p hp hok => ?_
  split
  · next y hin hout =>
    refine .executed hok (by simp [enabled, hp, hin, hout]) ?_
    split
    · exact completes_ok rfl _
    · exact completes_fail rfl (by simp [excCode])
  · next hblocked => exact .busy hok (by simpa only [enabled, hp] using isSome_and_isNone_eq_false hblocked)

theorem execStbb_verdict (s : State) : Verdict s .stbb (execStbb s) := by
  refine verdict_whenActive rfl rfl fun p hp hok => ?_
  split
  · next b hin hready => exact .executed hok (by simp [enabled, hp, hin, hready]) (completes_ok rfl _)
  · next hblocked =>
    refine .busy hok ?_
    cases hin : s.rb0 with
    | none => simp [enabled, hp, hin]
    | some b => simpa [enabled, hp, hin] using hblocked b hin

/-- Every command answers IllegalCommand where one of checks 3 to 5 fails, else BUSY where it is not enabled, else completes. -/
theorem exec_verdict (i : Instr) (s : State) : Verdict s i (exec i s) := by
  cases i with
  | reset | stop | clrev _ => exact verdict_always rfl rfl (completes_ok rfl _)
  | cfgr idx | rdstat idx => exact verdict_whenIndex rfl rfl fun hwf => verdict_always hwf rfl (completes_ok rfl _)
  | cfgw idx imm =>
    exact verdict_whenIndex rfl rfl fun hwf => verdict_whenIdle hwf rfl fun _ => completes_ok rfl _
  | start => exact execStart_verdict s
  | ldbb => exact execLdbb_verdict s
  | shape => exact execShape_verdict s
  | mfilt n => exact execMfilt_verdict n s
  | sync n => exact execSync_verdict n s
  | bchdec => exact execBchdec_verdict s
  | stbb => exact execStbb_verdict s
  | bchenc | ldpcenc | ilv | map | plfrm | demap | deilv | ldpcdec =>
    refine verdict_whenActive rfl rfl fun p hp hok => ?_
    split
    · next hin hout => exact .executed hok (by simp [enabled, hp, hin, hout]) (completes_ok rfl _)
    · next hblocked => exact .busy hok (by simpa only [enabled, hp] using isSome_and_isNone_eq_false hblocked)

/-! ### One response per command -/

section
variable {s : State} {i : Instr} {x : StepResult}

theorem Verdict.eq_illegal {c : IllegalCause} (h : Verdict s i x) (hfail : commandFailure i s = some c) :
    x = failWith (.illegalCommand c) s := by
  cases h with
  | illegal hfail' => rw [Option.some.inj (hfail.symm.trans hfail')]
  | busy hok _ | executed hok _ _ => exact absurd (hok.symm.trans hfail) nofun

theorem Verdict.eq_busy (h : Verdict s i x) (hok : commandFailure i s = none) (hblocked : enabled i s = false) :
    x = respondBusy s := by
  cases h with
  | illegal hfail => exact absurd (hok.symm.trans hfail) nofun
  | busy _ _ => rfl
  | executed _ henabled _ => exact absurd (hblocked.symm.trans henabled) nofun

theorem Verdict.completes (h : Verdict s i x) (hok : commandFailure i s = none) (henabled : enabled i s = true) :
    Completes s x := by
  cases h with
  | illegal hfail => exact absurd (hok.symm.trans hfail) nofun
  | busy _ hblocked => exact absurd (hblocked.symm.trans henabled) nofun
  | executed _ _ hx => exact hx

/-- BUSY is the status of `respondBusy` alone, which changes nothing but the responses. -/
theorem Verdict.oneResponse (h : Verdict s i x) : ∃ t r, x = .next t ∧
    t.rsp = s.rsp ++ [r] ∧ r.status ∈ [0x00, 0x01, 0x81, 0x82, 0x86, 0x87] ∧
    (r.status = 0x01 → t = { s with rsp := s.rsp ++ [⟨0x01, 0⟩] }) := by
  cases h with
  | @illegal c _ =>
    exact ⟨_, ⟨0x87, (illegalSub c).setWidth 32⟩, failWith_eq _ s, rfl, by simp, fun h => absurd h (by simp)⟩
  | busy _ _ => exact ⟨_, ⟨0x01, 0⟩, respondBusy_eq s, rfl, by simp, fun _ => rfl⟩
  | executed _ _ hx =>
    obtain ⟨t, r, hexec, hrsp, hstatus⟩ := hx
    exact ⟨t, r, hexec, hrsp, by grind, fun h => absurd (h ▸ hstatus) (by decide)⟩

end

theorem runCommand_reservedOpcode {w : BitVec 32} (h : decode w = .reservedOpcode) (s : State) :
    runCommand w s = failWith (.illegalCommand .reservedOpcode) s := by
  simp only [runCommand, h]

theorem runCommand_reservedField {w : BitVec 32} (h : decode w = .reservedField) (s : State) :
    runCommand w s = failWith (.illegalCommand .reservedField) s := by
  simp only [runCommand, h]

theorem runCommand_rsp (w : BitVec 32) (s : State) : ∃ t r, runCommand w s = .next t ∧ t.rsp = s.rsp ++ [r] := by
  cases hword : decode w with
  | instr i =>
    obtain ⟨t, r, hexec, hrsp, -⟩ := (exec_verdict i s).oneResponse
    exact ⟨t, r, (runCommand_of_decode hword s).trans hexec, hrsp⟩
  | reservedOpcode => exact ⟨_, _, runCommand_reservedOpcode hword s, rfl⟩
  | reservedField => exact ⟨_, _, runCommand_reservedField hword s, rfl⟩

theorem AgentEffect.rsp {s t : State} {a : AgentStep} (h : AgentEffect s a t) (hno : ∀ w, a ≠ .command w) :
    t.rsp = s.rsp := by
  cases h with
  | command _ _ | illegalWord _ => exact absurd rfl (hno _)
  | _ => rfl

/-- Settles O7, from the three verdicts of a command and the effects of the other agents' steps. -/
theorem oneResponsePerCommand : Obligations.OneResponsePerCommand := by
  refine ⟨fun i s => (exec_verdict i s).oneResponse, runCommand_rsp, fun a s hno => ?agents⟩
  case agents =>
    obtain ⟨t, hstep, heffect⟩ := agentStep_effect a s
    exact ⟨t, hstep, heffect.rsp hno⟩

/-! ### The checks of a command word -/

/-- Checks 2 to 5 of 30_encoding.md R104 on a word of the row `r`, by its fields w[23:16] and w[15:0]. -/
def rowFailure (r : OpcodeRow) (idx imm : Nat) (session : Session) : Option Nat :=
  if !mustBeZeroOk r.format idx imm then some 2
  else if (r.format == .regImm || r.format == .regOnly) && decide (idx > r.last) then some 3
  else if r.format == .count && imm == 0 then some 5
  else if !sessionOk r.needs session then some 4
  else none

/-- The row of the opcode map with the given opcode, if any. -/
def rowOfOpcode (opc : Nat) : Option OpcodeRow := opcodeMap.find? (fun r => r.opc == opc)

theorem firstFailure_eq (w : BitVec 32) (s : State) : firstFailure w s =
    (rowOfOpcode (opcodeOf w).toNat).elim (some 1) fun r => rowFailure r (idxOf w).toNat (immOf w).toNat s.session := by
  have hopc : (opcodeOf w).toNat = w.toNat / 16777216 := by
    have := w.isLt
    simp only [opcodeOf, BitVec.extractLsb'_toNat, Nat.shiftRight_eq_div_pow]
    omega
  have hidx : (idxOf w).toNat = w.toNat / 65536 % 256 := by
    simp only [idxOf, BitVec.extractLsb'_toNat, Nat.shiftRight_eq_div_pow]
  have himm : (immOf w).toNat = w.toNat % 65536 := by
    simp only [immOf, BitVec.extractLsb'_toNat, Nat.shiftRight_eq_div_pow]
    omega
  rw [hopc, hidx, himm]
  unfold firstFailure
  dsimp only [rowOfOpcode]
  cases opcodeMap.find? (fun r => r.opc == w.toNat / 16777216) with
  | none => rfl
  | some r => rfl

theorem firstFailure_of_row {w : BitVec 32} {r : OpcodeRow} (hrow : rowOfOpcode (opcodeOf w).toNat = some r) (s : State) :
    firstFailure w s = rowFailure r (idxOf w).toNat (immOf w).toNat s.session := by
  rw [firstFailure_eq, hrow]
  rfl

/-- The checks of a command's word are those of the decoded command, with the sub-cause of 60_exceptions.md R351. -/
theorem firstFailure_encode (i : Instr) (s : State) :
    firstFailure (encode i) s = (commandFailure i s).map fun c => (illegalSub c).toNat := by
  have hopc : opcodeOf (encode i) = Laws.WordFields.opcode i := by
    cases i with
    | _ => exact opcodeOf_commandWord ..
  cases i with
  | cfgw idx imm | cfgr idx | rdstat idx | mfilt n | sync n =>
    rw [firstFailure_of_row (by rw [hopc]; rfl)]
    simp [rowFailure, mustBeZeroOk, encode, commandFailure, Instr.wellFormed, operandCause, needsOf, illegalSub,
      apply_ite (Option.map _)]
  | _ =>
    rw [firstFailure_of_row (by rw [hopc]; rfl)]
    simp [rowFailure, mustBeZeroOk, encode, commandFailure, Instr.wellFormed, needsOf, illegalSub, apply_ite (Option.map _)]

theorem decodeN_eq (w : BitVec 32) (i : Instr) :
    decodeN w i = if mustBeZeroOk .n (idxOf w).toNat (immOf w).toNat then .instr i else .reservedField := by
  simp [decodeN, mustBeZeroOk, ← BitVec.toNat_inj]

theorem decodeIdx_eq (w : BitVec 32) (i : BitVec 8 → Instr) : decodeIdx w i =
    if mustBeZeroOk .regOnly (idxOf w).toNat (immOf w).toNat then .instr (i (idxOf w)) else .reservedField := by
  simp [decodeIdx, mustBeZeroOk, ← BitVec.toNat_inj]

/-- CLREV's format asks the same of the fields as that of MFILT and SYNC. -/
theorem decodeImm_eq (w : BitVec 32) (i : BitVec 16 → Instr) : decodeImm w i =
    if mustBeZeroOk .mask (idxOf w).toNat (immOf w).toNat then .instr (i (immOf w)) else .reservedField := by
  simp [decodeImm, mustBeZeroOk, ← BitVec.toNat_inj]

/-- A format that reads no command refuses the word by its check of the fields. -/
theorem refused_of_eq_ite {d : Decoded} {ok : Bool} {i : Instr} (hd : d = if ok then .instr i else .reservedField)
    (h : ∀ j, d ≠ .instr j) : d = .reservedField ∧ ok = false := by
  cases ok with
  | true => exact absurd hd (h i)
  | false => exact ⟨hd, rfl⟩

/-- A word that is no command's has no row, or fails the check of its row's format (30_encoding.md R104 checks 1 and 2). -/
theorem decode_refused {w : BitVec 32} (h : ∀ i, decode w ≠ .instr i) :
    (decode w = .reservedOpcode ∧ rowOfOpcode (opcodeOf w).toNat = none) ∨ (decode w = .reservedField ∧
      ∃ r, rowOfOpcode (opcodeOf w).toNat = some r ∧ mustBeZeroOk r.format (idxOf w).toNat (immOf w).toNat = false) := by
  unfold decode at *
  split at h
  case h_2 => exact absurd rfl (h _)
  case h_22 =>
    refine .inl ⟨rfl, ?_⟩
    simp only [rowOfOpcode, opcodeMap, List.find?_eq_none, List.forall_mem_cons, beq_iff_eq]
    simp_all [eq_comm]
  case h_3 hopc | h_6 hopc =>
    obtain ⟨hd, hzero⟩ := refused_of_eq_ite (decodeIdx_eq w _) h
    exact .inr ⟨hd, _, by rw [hopc]; rfl, hzero⟩
  case h_7 hopc | h_15 hopc | h_16 hopc =>
    obtain ⟨hd, hzero⟩ := refused_of_eq_ite (decodeImm_eq w _) h
    exact .inr ⟨hd, _, by rw [hopc]; rfl, hzero⟩
  case h_1 hopc | h_4 hopc | h_5 hopc | h_8 hopc | h_9 hopc | h_10 hopc | h_11 hopc | h_12 hopc | h_13 hopc | h_14 hopc
    | h_17 hopc | h_18 hopc | h_19 hopc | h_20 hopc | h_21 hopc =>
    obtain ⟨hd, hzero⟩ := refused_of_eq_ite (decodeN_eq w _) h
    exact .inr ⟨hd, _, by rw [hopc]; rfl, hzero⟩

/-- A command word fails one of checks 1 to 5, and raises IllegalCommand with its sub-cause, or decodes to a command that fails
none. -/
theorem runCommand_checks (w : BitVec 32) (s : State) :
    (∃ c, firstFailure w s = some (illegalSub c).toNat ∧ runCommand w s = failWith (.illegalCommand c) s) ∨
      (firstFailure w s = none ∧ ∃ i, decode w = .instr i ∧ commandFailure i s = none) := by
  by_cases hword : ∃ i, decode w = .instr i
  · obtain ⟨i, hi⟩ := hword
    have hfirst := firstFailure_encode i s
    rw [encode_of_decode hi] at hfirst
    cases hfail : commandFailure i s with
    | some c =>
      exact .inl ⟨c, by rw [hfirst, hfail]; rfl, (runCommand_of_decode hi s).trans ((exec_verdict i s).eq_illegal hfail)⟩
    | none => exact .inr ⟨by rw [hfirst, hfail]; rfl, i, hi, hfail⟩
  · obtain ⟨hdecode, hrow⟩ | ⟨hdecode, r, hrow, hzero⟩ := decode_refused (not_exists.1 hword)
    · exact .inl ⟨.reservedOpcode, by rw [firstFailure_eq, hrow]; rfl, runCommand_reservedOpcode hdecode s⟩
    · have hfirst : firstFailure w s = some 2 := by
        rw [firstFailure_of_row hrow, rowFailure, hzero]
        rfl
      exact .inl ⟨.reservedField, hfirst, runCommand_reservedField hdecode s⟩

theorem failWith_illegalCommand (c : IllegalCause) (s : State) : failWith (.illegalCommand c) s = .next { s with
    lasterr := BitVec.ofNat 32 (7 + 256 * (illegalSub c).toNat), event := s.event ||| 0x40
    rsp := s.rsp ++ [⟨0x87, BitVec.ofNat 32 (illegalSub c).toNat⟩] } := by
  cases c with
  | _ => rfl

/-- Settles O4: the checks of the word are those of the decoder and of the meaning, in one order, and what a command answers is
its verdict. -/
theorem commandChecksInOrder : Obligations.CommandChecksInOrder := by
  intro w s
  obtain ⟨c, hfirst, hrun⟩ | ⟨hfirst, i, hword, hok⟩ := runCommand_checks w s
  · refine ⟨fun c' hc' => ?illegal, fun h => absurd (hfirst.symm.trans h) nofun⟩
    case illegal =>
      obtain rfl := Option.some.inj (hfirst.symm.trans hc')
      rw [hrun, failWith_illegalCommand]
  · refine ⟨fun c hc => absurd (hfirst.symm.trans hc) nofun, fun _ => ⟨i, hword, runCommand_of_decode hword s,
      fun hblocked => (exec_verdict i s).eq_busy hok hblocked, fun henabled => ?executed⟩⟩
    case executed =>
      obtain ⟨t, r, hexec, hrsp, hstatus⟩ := (exec_verdict i s).completes hok henabled
      exact ⟨t, r, hexec, hrsp, fun h => absurd (h ▸ hstatus) (by decide), fun h => absurd (h ▸ hstatus) (by decide)⟩

end Sys2Proof.Machine
end

section
/-! PROOFS of the family 40_session_control.md, the session: the radio interface, the session state machine, STOP and CLREV, and
that nothing of a session is left while IDLE (R135, R137, R140 to R142; 10_state.md R38, R39, R47). -/

namespace Sys2Proof.Machine

open Sys2Proof.Safety

/-! ### The radio interface -/

section
variable {s : State}

theorem radioPop_idle (hidle : s.session = .idle) : radioPop s = s := by simp only [radioPop, hidle]

theorem radioPop_empty {p : Prof} (hp : s.session = .active p) (hq : s.txq = []) :
    radioPop s = raiseExc .streamUnderrun s := by simp only [radioPop, hp, hq]

theorem radioPop_cons {p : Prof} {x : Sample} {rest : List Sample} (hp : s.session = .active p) (hq : s.txq = x :: rest) :
    radioPop s = { s with txq := rest, radioTx := s.radioTx ++ [x] } := by simp only [radioPop, hp, hq]

theorem radioPush_idle (x : Sample) (hidle : s.session = .idle) : radioPush x s = s := by simp only [radioPush, hidle]

theorem radioPush_full {p : Prof} (x : Sample) (hp : s.session = .active p) (hfull : s.rom.rxqDepth ≤ s.rxq.length) :
    radioPush x s = { raiseExc .streamOverrun s with gap := true, gapLen := satInc s.gapLen } := by
  simp only [radioPush, hp, if_pos hfull]

theorem radioPush_room {p : Prof} (x : Sample) (hp : s.session = .active p) (hroom : s.rxq.length < s.rom.rxqDepth) :
    radioPush x s = { s with rxq := s.rxq ++ [⟨x, s.gap, s.gapLen⟩], gap := false, gapLen := 0 } := by
  simp only [radioPush, hp, if_neg (not_le.2 hroom)]

end

theorem raiseExc_streamUnderrun (s : State) : raiseExc .streamUnderrun s = { s with
    lasterr := 0x0104, event := s.event ||| 0x08, cntUnderrun := satInc s.cntUnderrun } := rfl

theorem raiseExc_streamOverrun (s : State) : raiseExc .streamOverrun s = { s with
    lasterr := 0x0105, event := s.event ||| 0x10, cntOverrun := satInc s.cntOverrun } := rfl

theorem agentStep_radioPop (s : State) : agentStep .radioPop s = .next (radioPop s) := rfl

theorem agentStep_radioPush (x : Sample) (s : State) : agentStep (.radioPush x) s = .next (radioPush x s) := rfl

/-- Settles O26: each case of the two radio steps, with the exception written out where the queue is empty or full. -/
theorem radioSteps : Obligations.RadioSteps := by
  refine ⟨fun s x hidle => ?idle, fun s p hp hq => ?underrun, fun s p x rest hp hq => ?pop, fun s p x hp hfull => ?overrun,
    fun s p x hp hroom => ?push⟩
  case idle => rw [agentStep_radioPop, agentStep_radioPush, radioPop_idle hidle, radioPush_idle x hidle]; exact ⟨rfl, rfl⟩
  case underrun => rw [agentStep_radioPop, radioPop_empty hp hq, raiseExc_streamUnderrun]
  case pop => rw [agentStep_radioPop, radioPop_cons hp hq]
  case overrun => rw [agentStep_radioPush, radioPush_full x hp hfull, raiseExc_streamOverrun]
  case push => rw [agentStep_radioPush, radioPush_room x hp hroom]

/-! ### The session state machine -/

/-- The agent steps that end a session: RESET, hardware reset, the stop signal and STOP (40_session_control.md R142). -/
def EndsSession (a : AgentStep) : Prop := isReset a = true ∨ a = .stopSignal ∨ a = .command (encode .stop)

theorem agentStep_encode (i : Instr) (s : State) : agentStep (.command (encode i)) s = exec i s :=
  agentStep_command (decode_encode i) s

theorem agentStep_of_isReset {a : AgentStep} (h : isReset a = true) (s : State) :
    agentStep a s = .next (resetCore s) ∨ agentStep a s = .next (respond 0x00 0 (resetCore s)) := by
  cases a with
  | command w => exact .inr (agentStep_command (of_decide_eq_true h) s)
  | hardwareReset => exact .inl rfl
  | _ => exact absurd h nofun

theorem session_of_endsSession {s t : State} {a : AgentStep} (ha : EndsSession a) (hstep : agentStep a s = .next t) :
    t.session = .idle := by
  obtain hreset | rfl | rfl := ha
  · obtain h | h := agentStep_of_isReset hreset s
    · rw [← Host.Outcome.next.inj (h.symm.trans hstep)]; rfl
    · rw [← Host.Outcome.next.inj (h.symm.trans hstep)]; rfl
  · rw [← Host.Outcome.next.inj hstep]; rfl
  · rw [agentStep_encode] at hstep
    rw [← Host.Outcome.next.inj hstep]; rfl

/-- A command but RESET, STOP and a START from IDLE leaves the session. -/
theorem Effect.session {s t : State} {i : Instr} (h : Effect s i t) (hreset : i ≠ .reset) (hstop : i ≠ .stop)
    (hstart : i = .start → s.session ≠ .idle) : t.session = s.session := by
  cases h with
  | reset => contradiction
  | stop => contradiction
  | start hidle _ => exact absurd hidle (hstart rfl)
  | sync _ _ => exact (syncLoop_change ..).session
  | _ => rfl

theorem AgentEffect.session {s t : State} {a : AgentStep} (h : AgentEffect s a t) (hends : ¬ EndsSession a)
    (hstart : a = .command (encode .start) → s.session ≠ .idle) : t.session = s.session := by
  obtain ⟨hreset, hsignal, hstop⟩ : isReset a = false ∧ a ≠ .stopSignal ∧ a ≠ .command (encode .stop) := by
    simpa [EndsSession] using hends
  cases h with
  | @command w i t _ _ hword heffect =>
    have hw : encode i = w := encode_of_decode hword
    refine heffect.session (not_reset_of_isReset_false hreset hword) ?_ ?_
    · rintro rfl; exact hstop (congrArg _ hw.symm)
    · rintro rfl; exact hstart (congrArg _ hw.symm)
  | stopSignal => contradiction
  | hardwareReset => exact absurd hreset nofun
  | _ => rfl

theorem exec_start_error {s : State} {c : ConfigCause} (hidle : s.session = .idle) (hcheck : startCheck s = .error c) :
    exec .start s = failWith (.configurationError c) s := by
  simp only [exec, execStart, whenIdle_idle hidle, hcheck]

/-- Settles O10: the steps that end a session, a START from IDLE by its validation, and every other step, which leaves
`SESSION`. -/
theorem sessionTransitions : Obligations.SessionTransitions := by
  intro a s
  obtain ⟨t, hstep, heffect⟩ := agentStep_effect a s
  refine ⟨t, hstep, fun ha => session_of_endsSession ha hstep, fun p hp hreset hsignal hstop => ?active,
    fun r taps hidle ha hcheck => ?starts, fun c hidle ha hcheck => ?startFails, fun hidle ha => ?idle⟩
  case active =>
    have hends : ¬ EndsSession a := by simp [EndsSession, hreset, hsignal, hstop]
    exact (heffect.session hends fun _ => hp ▸ nofun).trans hp
  case starts =>
    rw [ha, agentStep_encode, exec_start_ok hidle hcheck] at hstep
    rw [← Host.Outcome.next.inj hstep]; rfl
  case startFails =>
    rw [ha, agentStep_encode, exec_start_error hidle hcheck, failWith_eq] at hstep
    rw [← Host.Outcome.next.inj hstep]; exact hidle
  case idle =>
    by_cases hends : EndsSession a
    · exact session_of_endsSession hends hstep
    · exact (heffect.session hends fun h => absurd h ha).trans hidle

/-! ### STOP and CLREV -/

/-- Settles O19: STOP and the stop signal have one effect, `stopSession`, whose delay lines and `WIN` have no element. -/
theorem stopEndsSession : Obligations.StopEndsSession := fun s => ⟨stopSession s, rfl, rfl, rfl⟩

theorem acknowledge_event_getLsbD (mask : BitVec 16) (s : State) {b : Nat} (hb : b < 32) :
    (acknowledge mask s).event.getLsbD b = (s.event.getLsbD b && !mask.getLsbD b) := by
  rw [acknowledge_event, BitVec.getLsbD_and, BitVec.getLsbD_not, BitVec.getLsbD_setWidth]
  simp [hb]

/-- Settles O22: CLREV is an acknowledgement, and its response is the event word before it. -/
theorem clrevAcknowledges : Obligations.ClrevAcknowledges := fun s mask =>
  ⟨(acknowledge mask s).event, rfl, fun _ => acknowledge_event_getLsbD mask s⟩

/-! ### Nothing of a session is left while IDLE -/

section
variable {s t : State}

theorem idleClean_of_active {p : Prof} (hp : s.session = .active p) : idleClean s = true := by simp only [idleClean, hp]

@[simp] theorem idleClean_stopSession (s : State) : idleClean (stopSession s) = true := by simp [idleClean]

@[simp] theorem idleClean_resetCore (s : State) : idleClean (resetCore s) = true := by simp [idleClean]

/-- A step that does nothing while IDLE and leaves the session keeps it clean. -/
theorem idleClean_of_idle_eq (hidle : s.session = .idle → t = s) (hsession : t.session = s.session)
    (hs : idleClean s = true) : idleClean t = true := by
  cases hp : s.session with
  | idle => rw [hidle hp]; exact hs
  | active p => exact idleClean_of_active (hsession.trans hp)

/-- The stages run while ACTIVE; of the other commands those that end the session clean it, and START leaves IDLE. -/
theorem Effect.keeps_idleClean {i : Instr} (h : Effect s i t) (hs : idleClean s = true) : idleClean t = true := by
  cases h with
  | reset => exact idleClean_resetCore s
  | stop => exact idleClean_stopSession s
  | start _ _ => exact idleClean_of_active rfl
  | ldbbFails _ hp _ _ _ | ldbb hp _ _ _ | bchenc hp _ _ | ldpcenc hp _ _ | ilv hp _ _ | map hp _ _ | plfrm hp _ _
  | shape hp _ _ | mfilt hp _ _ _ | demap hp _ _ | deilv hp _ _ | ldpcdec hp _ _ _ | bchdec hp _ _ _ | bchdecFails hp _ _ _
  | stbb hp _ _ => exact idleClean_of_active hp
  | sync hp _ => exact idleClean_of_active ((syncLoop_change ..).session.trans hp)
  | unchanged _ | illegal _ _ | cfgw _ _ | startFails _ _ | clrev => exact hs

theorem agentStep_keeps_idleClean {a : AgentStep} (hstep : agentStep a s = .next t) (hs : idleClean s = true) :
    idleClean t = true := by
  cases a with
  | command w =>
    obtain ⟨u, hrun, heffect⟩ := runCommand_effect w s
    obtain rfl := Host.Outcome.next.inj (hrun.symm.trans hstep)
    cases heffect with
    | command _ heffect => exact heffect.keeps_idleClean hs
    | illegalWord _ => exact hs
  | radioPop =>
    obtain rfl := Host.Outcome.next.inj hstep
    exact idleClean_of_idle_eq radioPop_idle ((radioPop_effect s).session (by simp [EndsSession, isReset]) nofun) hs
  | radioPush x =>
    obtain rfl := Host.Outcome.next.inj hstep
    exact idleClean_of_idle_eq (radioPush_idle x) ((radioPush_effect x s).session (by simp [EndsSession, isReset]) nofun) hs
  | stopSignal => rw [← Host.Outcome.next.inj hstep]; exact idleClean_stopSession s
  | hardwareReset => rw [← Host.Outcome.next.inj hstep]; exact idleClean_resetCore s
  | offerChunk _ | bboutReady _ => rw [← Host.Outcome.next.inj hstep]; exact hs

/-! ### Reserved bits and the pending gap -/

theorem flagsSound_iff :
    flagsSound s = true ↔ s.event >>> 10 = 0 ∧ s.lasterr >>> 16 = 0 ∧ s.gap = (s.gapLen != 0) := by
  simp [flagsSound, and_assoc]

theorem withEvent_reserved (b : EventBit) {ev : BitVec 32} (h : ev >>> 10 = 0) : withEvent b ev >>> 10 = 0 := by
  have hmask : eventMask b >>> 10 = 0 := by cases b <;> rfl
  rw [withEvent, BitVec.ushiftRight_or_distrib, h, hmask]; rfl

theorem acknowledge_reserved (mask : BitVec 16) (h : s.event >>> 10 = 0) : (acknowledge mask s).event >>> 10 = 0 := by
  rw [acknowledge_event, BitVec.ushiftRight_and_distrib, h]
  exact BitVec.zero_and

theorem excRecord_reserved (e : Exc) : excRecord e >>> 16 = 0 := by
  have hlt := excRecord_toNat_lt e
  apply BitVec.eq_of_toNat_eq
  rw [BitVec.toNat_ushiftRight, Nat.shiftRight_eq_div_pow, Nat.div_eq_of_lt hlt]; rfl

theorem satInc_ne_zero (w : BitVec 32) : satInc w ≠ 0 := by
  intro h
  have hadd := satInc_toNat w
  simp [h] at hadd
  omega

/-- Setting an event bit keeps the reserved bits at 0. -/
theorem flagsSound_withEvent (b : EventBit) (hs : flagsSound s = true) :
    flagsSound { s with event := withEvent b s.event } = true := by
  obtain ⟨hevent, hlasterr, hgap⟩ := flagsSound_iff.1 hs
  exact flagsSound_iff.2 ⟨withEvent_reserved b hevent, hlasterr, hgap⟩

theorem flagsSound_raiseExc (e : Exc) (hs : flagsSound s = true) : flagsSound (raiseExc e s) = true := by
  obtain ⟨hevent, -, hgap⟩ := flagsSound_iff.1 hs
  exact flagsSound_iff.2 ⟨withEvent_reserved _ hevent, excRecord_reserved e, hgap⟩

@[simp] theorem flagsSound_resetCore (s : State) : flagsSound (resetCore s) = true := by simp [flagsSound]

/-- A step that leaves no gap pending and touches neither register keeps the flags sound. -/
theorem flagsSound_of_no_gap (hs : flagsSound s = true) (hevent : t.event = s.event) (hlasterr : t.lasterr = s.lasterr)
    (hgap : t.gap = false) (hlen : t.gapLen = 0) : flagsSound t = true := by
  obtain ⟨hreserved, hrecord, -⟩ := flagsSound_iff.1 hs
  exact flagsSound_iff.2 ⟨hevent ▸ hreserved, hlasterr ▸ hrecord, by rw [hgap, hlen]; rfl⟩

theorem syncLoop_keeps_flagsSound (hdr : List Sample) (p : Prof) (n : Nat) (hs : flagsSound s = true) :
    flagsSound (syncLoop hdr p n (syncBegin s)).st = true := by
  refine syncLoop_related (R := fun s t => flagsSound s = true → flagsSound t = true) (fun _ h => h)
    (fun _ _ _ h k hs => k (h hs)) (fun s t h hs => ?move) hdr p n s hs
  case move =>
    cases h with
    | dropFrame => exact flagsSound_withEvent .dropped hs
    | loss => exact flagsSound_raiseExc _ hs
    | lock y => exact flagsSound_withEvent .lock hs
    | sync _ | take _ | deliver _ _ => exact hs

theorem Effect.keeps_flagsSound {i : Instr} (h : Effect s i t) (hs : flagsSound s = true) : flagsSound t = true := by
  cases h with
  | reset => exact flagsSound_resetCore s
  | start _ _ | stop => exact flagsSound_of_no_gap hs rfl rfl rfl rfl
  | illegal _ _ | startFails _ _ | ldbbFails _ _ _ _ _ | bchdecFails _ _ _ _ => exact flagsSound_raiseExc _ hs
  | clrev =>
    obtain ⟨hevent, hlasterr, hgap⟩ := flagsSound_iff.1 hs
    exact flagsSound_iff.2 ⟨acknowledge_reserved _ hevent, hlasterr, hgap⟩
  | @ldpcdec _ _ d _ _ _ _ =>
    cases hconverged : d.converged with
    | false => exact flagsSound_withEvent .ldpcfail hs
    | true => exact hs
  | sync _ _ => exact syncLoop_keeps_flagsSound _ _ _ hs
  | _ => exact hs

theorem AgentEffect.keeps_flagsSound {a : AgentStep} (h : AgentEffect s a t) (hs : flagsSound s = true) :
    flagsSound t = true := by
  cases h with
  | command _ heffect => exact heffect.keeps_flagsSound hs
  | illegalWord _ | underrun _ => exact flagsSound_raiseExc _ hs
  | stopSignal | push _ => exact flagsSound_of_no_gap hs rfl rfl rfl rfl
  | hardwareReset => exact flagsSound_resetCore s
  | overrun _ =>
    obtain ⟨hevent, hlasterr, -⟩ := flagsSound_iff.1 (flagsSound_raiseExc .streamOverrun hs)
    exact flagsSound_iff.2 ⟨hevent, hlasterr, (bne_iff_ne.2 (satInc_ne_zero s.gapLen)).symm⟩
  | _ => exact hs

end

/-- Settles O54: while IDLE only the ports, `ST_EVENT`, `ST_LASTERR` and the configuration can change, until START leaves IDLE;
what ends a session cleans it; and every effect keeps the reserved bits at 0 and `GAP` with `GAPLEN`. -/
theorem stepKeepsIdleAndFlags : Obligations.StepKeepsIdleAndFlags := by
  intro s hclean hflags
  cases hin : s.inputs with
  | nil => exact ⟨s, step_of_inputs_nil hin, hclean, hflags⟩
  | cons a rest =>
    obtain ⟨t, hstep, heffect⟩ := agentStep_effect a { s with inputs := rest }
    exact ⟨t, (step_of_inputs_cons hin).trans hstep, agentStep_keeps_idleClean hstep hclean, heffect.keeps_flagsSound hflags⟩

end Sys2Proof.Machine
end

section
/-! PROOFS of the family 40_session_control.md, the configuration and START: CFGW and CFGR (R132, R133), the checks of R134 in
order, and the state of a session that begins (10_state.md R36, R52). -/

namespace Sys2Proof.Machine

open Sys2Proof.Safety

/-! ### The configuration registers as numbers -/

theorem cfgRead_toNat (s : State) {i : Nat} (hi : i < 14) : (cfgRead s i).toNat = cfgNat s i := by
  simp [cfgNat, cfgRead_lt hi, hi]

theorem cfgRead_eq_ofNat (s : State) {i : Nat} (hi : i < 14) : cfgRead s i = BitVec.ofNat 16 (cfgNat s i) := by
  rw [← cfgRead_toNat s hi, BitVec.ofNat_toNat, BitVec.setWidth_eq]

theorem cfgNat_lt (s : State) {i : Nat} (hi : i < 14) : cfgNat s i < 65536 := by
  rw [← cfgRead_toNat s hi]
  exact (cfgRead s i).isLt

theorem cfgField_eq (s : State) {i : Nat} (hi : i < 14) (hib lo : Nat) :
    cfgField s i hib lo = cfgNat s i / 2 ^ lo % 2 ^ (hib - lo + 1) := by
  rw [cfgField, cfgRead_toNat s hi, Nat.shiftRight_eq_div_pow]

section
variable (s : State)

theorem cfgModcod_eq : cfgModcod s = cfgNat s 0 % 32 := by simp [cfgModcod, cfgField_eq]
theorem cfgShort_eq : cfgShort s = (cfgNat s 0 / 32 % 2 == 1) := by simp [cfgShort, cfgField_eq]
theorem cfgPilots_eq : cfgPilots s = (cfgNat s 0 / 64 % 2 == 1) := by simp [cfgPilots, cfgField_eq]
theorem cfgAlpha_eq : cfgAlpha s = cfgNat s 1 % 128 := by simp [cfgAlpha, cfgField_eq]
theorem cfgSps_eq : cfgSps s = cfgNat s 2 := cfgRead_toNat s (by decide)
theorem cfgSpan_eq : cfgSpan s = cfgNat s 3 := cfgRead_toNat s (by decide)
theorem cfgLlrshift_eq : cfgLlrshift s = cfgNat s 7 % 64 := by simp [cfgLlrshift, cfgField_eq]
theorem cfgHard_eq : cfgHard s = (cfgNat s 8 % 2 == 1) := by simp [cfgHard, cfgField_eq]
theorem cfgTshift_eq : cfgTshift s = cfgNat s 10 % 64 := by simp [cfgTshift, cfgField_eq]

/-- A reserved field is set exactly where its register exceeds the fields below it. -/
theorem cfgReservedSet_iff : cfgReservedSet s = true ↔
    128 ≤ cfgNat s 0 ∨ 128 ≤ cfgNat s 1 ∨ 64 ≤ cfgNat s 7 ∨ 2 ≤ cfgNat s 8 ∨ 64 ≤ cfgNat s 10 := by
  have h0 := cfgNat_lt s (i := 0) (by decide)
  have h1 := cfgNat_lt s (i := 1) (by decide)
  have h7 := cfgNat_lt s (i := 7) (by decide)
  have h8 := cfgNat_lt s (i := 8) (by decide)
  have h10 := cfgNat_lt s (i := 10) (by decide)
  simp only [cfgReservedSet, cfgField_eq, Nat.reduceLT, Nat.ofNat_pos, Bool.or_eq_true, bne_iff_ne]
  omega

end

theorem exec_cfgr {s : State} {idx : BitVec 8} (hidx : idx.toNat ≤ 13) :
    exec (.cfgr idx) s = .next (respond 0x00 ((cfgRead s idx.toNat).setWidth 32) s) := by
  rw [exec, execCfgr, whenIndex_le hidx, respondOk_eq]

/-- Settles O16: CFGR answers the register it names, CFGW sets it in the vector of registers. -/
theorem configurationWriteRead : Obligations.ConfigurationWriteRead := by
  refine ⟨fun s idx hidx => ?read, fun s idx v hidle hidx => ⟨s.cfg.setIfInBounds idx.toNat v, ?write, ?registers⟩⟩
  case read =>
    rw [exec_cfgr hidx, ← cfgRead_toNat s (by omega), BitVec.ofNat_toNat]; rfl
  case write => exact exec_cfgw_idle v hidle hidx
  case registers => exact Vector.toList_setIfInBounds

/-! ### START's checks -/

/-- The row of `startTable` that a failed validation stands for: failing, with its sub-cause. -/
def failedRow {α : Type} : Except ConfigCause α → Option (Bool × Nat)
  | .error c => some (true, (configSub c).toNat)
  | .ok _ => none

@[simp] theorem failedRow_error {α : Type} (c : ConfigCause) :
    failedRow (.error c : Except ConfigCause α) = some (true, (configSub c).toNat) := rfl

@[simp] theorem failedRow_ok {α : Type} (x : α) : failedRow (.ok x) = none := rfl

@[simp] theorem failedRow_ite {α : Type} (q : Prop) [Decidable q] (c : ConfigCause) (x : Except ConfigCause α) :
    failedRow (if q then .error c else x) = if q then some (true, (configSub c).toNat) else failedRow x := by
  split
  · rfl
  · rfl

theorem find_row (fails : Bool) (n : Nat) (rows : List (Bool × Nat)) :
    ((fails, n) :: rows).find? (fun e => e.1) = if fails = true then some (true, n) else rows.find? (fun e => e.1) := by
  cases fails with
  | true => rfl
  | false => rfl

/-- START's validation stops at the first failing row of the spec's table (40_session_control.md R134). -/
theorem find_startTable (s : State) : (startTable s).find? (fun e => e.1) = failedRow (startCheck s) := by
  unfold startCheck startTable
  simp only [find_row, failedRow_ite, cfgReservedSet_iff, cfgModcod_eq, cfgShort_eq]
  cases profileLookup s.rom (cfgNat s 0 % 32) (cfgNat s 0 / 32 % 2 == 1) with
  | none => simp [configSub]
  | some r =>
    simp only [cfgAlpha_eq, cfgSps_eq, cfgSpan_eq]
    cases rrcLookup s.rom (cfgNat s 1 % 128) (cfgNat s 2) (cfgNat s 3) with
    | none => simp [configSub]
    | some taps => simp [configSub, cfgLlrshift_eq, cfgRead_toNat, or_assoc]

theorem failWith_configurationError (c : ConfigCause) (s : State) : failWith (.configurationError c) s = .next { s with
    lasterr := BitVec.ofNat 32 (1 + 256 * (configSub c).toNat), event := s.event ||| 1
    rsp := s.rsp ++ [⟨0x81, BitVec.ofNat 32 (configSub c).toNat⟩] } := by
  cases c with
  | _ => rfl

/-- Settles O18: a failing row is the cause the validation answers, and without one START begins a session. -/
theorem startReportsFirstFailure : Obligations.StartReportsFirstFailure := by
  intro s hidle
  rw [find_startTable]
  cases hcheck : startCheck s with
  | error c =>
    refine ⟨fun n hn => ?fails, nofun⟩
    obtain rfl : (configSub c).toNat = n := (Prod.mk.inj (Option.some.inj hn)).2
    rw [exec_start_error hidle hcheck, failWith_configurationError]
  | ok x => exact ⟨nofun, fun _ => ⟨_, _, exec_start_ok hidle hcheck, rfl⟩⟩

/-! ### The session that START begins -/

section
variable {s : State} {r : ProfileRow} {taps : List Int}

/-- With no failing row START validates with the record and the taps of the two lookups. -/
theorem startCheck_of_find_none (hnone : (startTable s).find? (fun e => e.1) = none)
    (hrow : profileLookup s.rom (cfgNat s 0 % 32) (cfgNat s 0 / 32 % 2 == 1) = some r)
    (htaps : rrcLookup s.rom (cfgNat s 1 % 128) (cfgNat s 2) (cfgNat s 3) = some taps) : startCheck s = .ok (r, taps) := by
  rw [find_startTable] at hnone
  cases hcheck : startCheck s with
  | error c => rw [hcheck] at hnone; contradiction
  | ok x =>
    obtain ⟨hrow', htaps', -⟩ := startCheck_ok hcheck
    rw [cfgModcod_eq, cfgShort_eq, hrow] at hrow'
    rw [cfgAlpha_eq, cfgSps_eq, cfgSpan_eq, htaps] at htaps'
    rw [Option.some.inj hrow', Option.some.inj htaps']

/-- The latched profile, field by field, where the registers have no reserved bit set (10_state.md R36). -/
theorem latchProfile_eq (halpha : cfgNat s 1 < 128) (hllrshift : cfgNat s 7 < 64) (hhard : cfgNat s 8 < 2)
    (htshift : cfgNat s 10 < 64) : latchProfile s r taps = {
      row := r, pilots := cfgNat s 0 / 64 % 2 == 1, alpha100 := cfgNat s 1, sps := cfgNat s 2, span := cfgNat s 3
      taps := taps, maxiter := cfgNat s 4, llrmax := cfgNat s 5, llrscale := cfgNat s 6, llrshift := cfgNat s 7
      hard := cfgNat s 8 == 1, thresh := cfgNat s 9, tshift := cfgNat s 10, miss := cfgNat s 11
      cloop := BitVec.ofNat 16 (cfgNat s 12), tloop := BitVec.ofNat 16 (cfgNat s 13)
      lpl := plLength s.rom r (cfgNat s 0 / 64 % 2 == 1), nsym := r.nldpc / r.eta, chunkBytes := r.kbch / 8 } := by
  simp only [latchProfile, cfgPilots_eq, cfgAlpha_eq, cfgSps_eq, cfgSpan_eq, cfgLlrshift_eq, cfgHard_eq, cfgTshift_eq,
    nsymOf, Nat.mod_eq_of_lt halpha, Nat.mod_eq_of_lt hllrshift, Nat.mod_eq_of_lt hhard, Nat.mod_eq_of_lt htshift]
  rw [cfgRead_eq_ofNat s (i := 12) (by decide), cfgRead_eq_ofNat s (i := 13) (by decide)]
  simp only [cfgRead_toNat, Nat.reduceLT]

end

/-- Settles O17: no row of the table fails, so START latches the fields of the registers and clears the streams to the
lengths of the new profile. -/
theorem startBeginsSession : Obligations.StartBeginsSession := by
  intro s r taps hidle h0 h1 h7 h8 h10 hrow halpha halpha' hsps hsps' hspan hspan' htaps hmaxiter hllrmax hllrmax' hscale
    hshift hmiss
  have hmask : cfgNat s 1 % 128 = cfgNat s 1 := Nat.mod_eq_of_lt h1
  have hmask' : cfgNat s 7 % 64 = cfgNat s 7 := Nat.mod_eq_of_lt h7
  have hnone : (startTable s).find? (fun e => e.1) = none := by
    simp only [List.find?_eq_none, startTable, List.forall_mem_cons, hrow, htaps, hmask, hmask', decide_eq_true_eq,
      Option.beq_none, Option.isNone_some, Bool.false_eq_true, not_false_eq_true, true_and,
      List.not_mem_nil, false_implies, implies_true, and_true]
    omega
  have hcheck : startCheck s = .ok (r, taps) := startCheck_of_find_none hnone hrow (hmask.symm ▸ htaps)
  rw [exec_start_ok hidle hcheck, latchProfile_eq h1 h7 h8 h10]
  rfl

end Sys2Proof.Machine
end

section
/-! PROOFS of the family 40_session_control.md, the payload: LDBB and STBB with the bit order of 20_memory.md R73 (R138, R139). -/

namespace Sys2Proof.Machine

open Sys2Proof.Safety

/-! ### The bits of a chunk -/

/-- The bits of one byte, the most significant first. -/
def bitsOfByte (x : Byte) : List Bool := (List.range 8).map fun j => x.getLsbD (7 - j)

theorem bitsOfBytes_cons (x : Byte) (c : List Byte) : bitsOfBytes (x :: c) = bitsOfByte x ++ bitsOfBytes c := rfl

@[simp] theorem bitsOfByte_length (x : Byte) : (bitsOfByte x).length = 8 := by simp [bitsOfByte]

theorem bitsOfByte_getD (x : Byte) {j : Nat} (hj : j < 8) : (bitsOfByte x).getD j false = x.getLsbD (7 - j) := by
  simp [bitsOfByte, hj]

/-- Bit 8i + j of a chunk is bit 7 - j of byte i (20_memory.md R73). -/
theorem bitsOfBytes_getD (c : List Byte) (i : Nat) {j : Nat} (hj : j < 8) :
    (bitsOfBytes c).getD (8 * i + j) false = (c.getD i 0).getLsbD (7 - j) := by
  induction c generalizing i with
  | nil => simp [bitsOfBytes]
  | cons x c ih =>
    rw [bitsOfBytes_cons]
    cases i with
    | zero =>
      rw [Nat.mul_zero, Nat.zero_add, List.getD_append _ _ _ _ (by simpa using hj), bitsOfByte_getD x hj]; rfl
    | succ i =>
      rw [List.getD_append_right _ _ _ _ (by rw [bitsOfByte_length]; omega), bitsOfByte_length, List.getD_cons_succ, ← ih]
      congr 1
      omega

theorem natOfBits_concat (l : List Bool) (x : Bool) : natOfBits (l ++ [x]) = Nat.bit x (natOfBits l) := by
  rw [natOfBits, List.foldl_append, Nat.bit_val]; rfl

/-- The first bit of a sequence is the most significant of its number (00_scope.md R13). -/
theorem natOfBits_testBit (l : List Bool) (k : Nat) : (natOfBits l).testBit k = l.reverse.getD k false := by
  induction l using List.reverseRecOn generalizing k with
  | nil => simp [natOfBits]
  | append_singleton l x ih =>
    rw [natOfBits_concat, List.reverse_concat]
    cases k with
    | zero => exact Nat.testBit_bit_zero x _
    | succ k => rw [Nat.testBit_bit_succ, ih, List.getD_cons_succ]

theorem groupsOf_getD {α : Type} (k : Nat) {n i : Nat} (l : List α) (hi : i < n) :
    (groupsOf k n l).getD i [] = (l.drop (k * i)).take k := by
  induction n generalizing i l with
  | zero => contradiction
  | succ n ih =>
    rw [groupsOf]
    cases i with
    | zero => simp
    | succ i => rw [List.getD_cons_succ, ih _ (by omega), List.drop_drop, Nat.mul_succ, Nat.add_comm]

theorem bytesOfBits_getD {n i : Nat} (b : List Bool) (hi : i < n) :
    (bytesOfBits n b).getD i 0 = BitVec.ofNat 8 (natOfBits ((b.drop (8 * i)).take 8)) := by
  rw [← groupsOf_getD 8 b hi, bytesOfBits]
  simp [hi]

theorem ofNat_natOfBits_getLsbD {g : List Bool} {j : Nat} (hlen : g.length = 8) (hj : j < 8) :
    (BitVec.ofNat 8 (natOfBits g)).getLsbD (7 - j) = g.getD j false := by
  have hback : 8 - 1 - (7 - j) = j := by omega
  rw [BitVec.getLsbD_ofNat, natOfBits_testBit, decide_eq_true (by omega), Bool.true_and, List.getD_eq_getElem?_getD,
    List.getElem?_reverse (by omega), hlen, hback, ← List.getD_eq_getElem?_getD]

/-- Bit 7 - j of byte i is bit 8i + j of the sequence (20_memory.md R73). -/
theorem bytesOfBits_getLsbD {n i j : Nat} {b : List Bool} (hlen : b.length = 8 * n) (hi : i < n) (hj : j < 8) :
    ((bytesOfBits n b).getD i 0).getLsbD (7 - j) = b.getD (8 * i + j) false := by
  have hgroup : ((b.drop (8 * i)).take 8).length = 8 := by
    rw [List.length_take, List.length_drop]
    omega
  rw [bytesOfBits_getD b hi, ofNat_natOfBits_getLsbD hgroup hj, List.getD_eq_getElem?_getD, List.getElem?_take_of_lt hj,
    List.getElem?_drop, ← List.getD_eq_getElem?_getD]

/-! ### LDBB and STBB -/

section
variable {s : State} {p : Prof}

theorem exec_ldbb {c : List Byte} {rest : List (List Byte)} (hp : s.session = .active p) (hout : s.tb0 = none)
    (hin : s.bbin = c :: rest) (hlen : c.length = p.chunkBytes) :
    exec .ldbb s = .next (respond 0x00 0 { s with bbin := rest, tb0 := some (bitsOfBytes c) }) := by
  simp only [exec, execLdbb, whenActive_active hp, hout, hin, hlen, lt_irrefl, gt_iff_lt, if_false, respondOk_eq]

theorem exec_stbb {b : List Bool} (hp : s.session = .active p) (hin : s.rb0 = some b) (hout : s.bboutReady = true) :
    exec .stbb s = .next (respond 0x00 (BitVec.ofNat 32 p.chunkBytes)
      { s with rb0 := none, bbout := s.bbout ++ [bytesOfBits p.chunkBytes b] }) := by
  simp only [exec, execStbb, whenActive_active hp, hin, hout, respondOk_eq]

end

/-- Settles O23: the chunk's bits in order, eight for each of its bytes. -/
theorem ldbbLoadsChunk : Obligations.LdbbLoadsChunk := by
  intro s p c rest hp hout hin hlen
  refine ⟨bitsOfBytes c, exec_ldbb hp hout hin hlen, ?length, fun i j _ hj => bitsOfBytes_getD c i hj⟩
  case length => rw [bitsOfBytes_length, hlen]

/-- Settles O25: `RB0` in groups of eight bits, each the bits of one byte. -/
theorem stbbStoresChunk : Obligations.StbbStoresChunk := by
  intro s p b hp hin hout
  exact ⟨bytesOfBits p.chunkBytes b, exec_stbb hp hin hout, bytesOfBits_length _ _,
    fun hlen i j hi hj => bytesOfBits_getLsbD hlen hi hj⟩

end Sys2Proof.Machine
end

section
/-! PROOFS of the family 41_bch.md, the encoder: BCHENC makes a multiple of the generator polynomial (R168, R170), and
encoding is linear over GF(2) (R171). -/

namespace Sys2Proof.Machine

open Sys2Proof.Safety

/-! ### Bit sequences and exclusive-or -/

/-- `v` under a flag: the product of one coefficient over GF(2) with a polynomial. -/
def gated (c : Bool) (v : Nat) : Nat := if c then v else 0

@[simp] theorem gated_false (v : Nat) : gated false v = 0 := rfl

@[simp] theorem gated_true (v : Nat) : gated true v = v := rfl

@[simp] theorem testBit_gated (c : Bool) (v k : Nat) : (gated c v).testBit k = (c && v.testBit k) := by
  cases c <;> simp

theorem gated_xor_flags (c c' : Bool) (v : Nat) : gated (c ^^ c') v = gated c v ^^^ gated c' v := by
  cases c <;> cases c' <;> simp

theorem gated_xor (c : Bool) (v w : Nat) : gated c (v ^^^ w) = gated c v ^^^ gated c w := by
  cases c <;> simp

theorem ite_xor_eq_gated (c : Bool) (v w : Nat) : (if c then v ^^^ w else v) = v ^^^ gated c w := by
  cases c <;> simp

theorem bit_false_gated (c : Bool) (v : Nat) : Nat.bit false (gated c v) = gated c (Nat.bit false v) := by
  cases c <;> simp

theorem bit_eq_xor (b : Bool) (n : Nat) : Nat.bit b n = Nat.bit false n ^^^ b.toNat := by
  cases b <;> simp

theorem bit_false_xor (a b : Nat) : Nat.bit false (a ^^^ b) = Nat.bit false a ^^^ Nat.bit false b := by
  simpa using (Nat.xor_bit false a false b).symm

theorem bit_false_shiftLeft (a i : Nat) : Nat.bit false (a <<< i) = a <<< (i + 1) := by
  rw [Nat.bit_false_apply, Nat.shiftLeft_succ]

theorem natOfBits_append (u d : List Bool) : natOfBits (u ++ d) = natOfBits u <<< d.length ^^^ natOfBits d := by
  induction d using List.reverseRecOn with
  | nil => simp [natOfBits]
  | append_singleton d x ih =>
    rw [← List.append_assoc, natOfBits_concat, natOfBits_concat, ih, List.length_append, List.length_singleton,
      bit_eq_xor, bit_false_xor, bit_false_shiftLeft, Nat.xor_assoc, ← bit_eq_xor]

theorem natOfBits_bitsOfNat {n v : Nat} (h : v < 2 ^ n) : natOfBits (bitsOfNat n v) = v := by
  refine Nat.eq_of_testBit_eq fun k => ?_
  rw [natOfBits_testBit]
  by_cases hk : k < n
  · have hback : n - 1 - (n - 1 - k) = k := by omega
    rw [List.getD_eq_getElem?_getD, List.getElem?_reverse (by simpa using hk), bitsOfNat_length]
    simp [bitsOfNat, show n - 1 - k < n by omega, hback]
  · have hpow : 2 ^ n ≤ 2 ^ k := Nat.pow_le_pow_right two_pos (by omega)
    rw [List.getD_eq_default _ _ (by simpa using hk), Nat.testBit_lt_two_pow (by omega)]

theorem bitsOfNat_xor (n a b : Nat) :
    bitsOfNat n (a ^^^ b) = List.zipWith Bool.xor (bitsOfNat n a) (bitsOfNat n b) := by
  simp [bitsOfNat, List.zipWith_map, List.zipWith_self, Nat.testBit_xor]

/-! ### Products of polynomials over GF(2) -/

/-- The part of `polyMul a b` that the `n` lowest coefficients of `b` make. -/
def polyMulLow (a b n : Nat) : Nat :=
  (List.range n).foldl (fun acc i => if b.testBit i then acc ^^^ (a <<< i) else acc) 0

theorem polyMul_eq_polyMulLow (a b : Nat) : polyMul a b = polyMulLow a b (bitlen b) := rfl

theorem polyMulLow_succ (a b n : Nat) :
    polyMulLow a b (n + 1) = polyMulLow a b n ^^^ gated (b.testBit n) (a <<< n) := by
  rw [polyMulLow, List.range_succ, List.foldl_append]
  exact ite_xor_eq_gated _ _ _

theorem polyMulLow_bit (a q n : Nat) (b : Bool) :
    polyMulLow a (Nat.bit b q) (n + 1) = Nat.bit false (polyMulLow a q n) ^^^ gated b a := by
  induction n with
  | zero => rw [polyMulLow_succ, Nat.testBit_bit_zero]; simp [polyMulLow]
  | succ n ih =>
    rw [polyMulLow_succ, ih, Nat.testBit_bit_succ, polyMulLow_succ, bit_false_xor, bit_false_gated, bit_false_shiftLeft,
      Nat.xor_right_comm]

theorem bitlen_bit {b : Bool} {q : Nat} (h : Nat.bit b q ≠ 0) : bitlen (Nat.bit b q) = bitlen q + 1 := by
  have hhalf : Nat.bit b q / 2 = q := Nat.bit_div_two b q
  by_cases hq : q = 0
  · subst hq
    cases b
    · exact absurd rfl h
    · decide
  · have htwo : 2 ≤ Nat.bit b q := by omega
    rw [bitlen, if_neg h, bitlen, if_neg hq, Nat.log2_def, if_pos htwo, hhalf]

@[simp] theorem polyMul_zero (a : Nat) : polyMul a 0 = 0 := rfl

/-- Multiplication by the polynomial x * q + b, one coefficient at a time. -/
theorem polyMul_bit (a q : Nat) (b : Bool) :
    polyMul a (Nat.bit b q) = Nat.bit false (polyMul a q) ^^^ gated b a := by
  by_cases h : Nat.bit b q = 0
  · obtain ⟨rfl, rfl⟩ := Nat.bit_eq_zero_iff.1 h
    simp
  · rw [polyMul_eq_polyMulLow, bitlen_bit h, polyMulLow_bit, polyMul_eq_polyMulLow]

/-! ### The shift register -/

section
variable {r g reg : Nat}

theorem xor_leading_lt (hg : g ≠ 0) (hdeg : Nat.log2 g = r) : g ^^^ 2 ^ r < 2 ^ r := by
  refine Nat.lt_pow_two_of_testBit _ fun i hi => ?_
  obtain ⟨-, hlt⟩ := (Nat.log2_eq_iff hg).1 hdeg
  rw [Nat.testBit_xor, Nat.testBit_two_pow]
  obtain rfl | hi := hi.eq_or_lt
  · rw [← hdeg, Nat.testBit_log2 hg]; simp
  · have hpow : 2 ^ (r + 1) ≤ 2 ^ i := Nat.pow_le_pow_right two_pos hi
    rw [Nat.testBit_lt_two_pow (hlt.trans_le hpow)]
    simp [hi.ne]

/-- A register of `r` bits shifted by one loses its top bit. -/
theorem shiftLeft_one_mod (hreg : reg < 2 ^ r) :
    (reg <<< 1) % 2 ^ r = Nat.bit false reg ^^^ gated (reg.testBit (r - 1)) (2 ^ r) := by
  have hzero : ∀ j, r ≤ j → reg.testBit j = false := fun j hj =>
    Nat.testBit_lt_two_pow (hreg.trans_le (Nat.pow_le_pow_right two_pos hj))
  refine Nat.eq_of_testBit_eq fun k => ?_
  rw [Nat.testBit_mod_two_pow, Nat.testBit_xor, testBit_gated, Nat.testBit_two_pow]
  cases k with
  | zero =>
    rw [Nat.testBit_bit_zero]
    cases r <;> simp [hzero]
  | succ k =>
    rw [Nat.testBit_bit_succ]
    rcases lt_trichotomy (k + 1) r with hk | rfl | hk
    · simp [hk, hk.ne']
    · simp
    · simp [hk.not_gt, hk.ne, hzero k (by omega)]

theorem bchShift_def (r gLow reg : Nat) (b : Bool) :
    bchShift r gLow reg b = (reg <<< 1) % 2 ^ r ^^^ gated (b ^^ reg.testBit (r - 1)) gLow :=
  ite_xor_eq_gated _ _ _

theorem bchShift_lt {gLow : Nat} (hg : gLow < 2 ^ r) (b : Bool) : bchShift r gLow reg b < 2 ^ r := by
  have hshift : (reg <<< 1) % 2 ^ r < 2 ^ r := Nat.mod_lt _ (by positivity)
  have hgate : ∀ c, gated c gLow < 2 ^ r
    | false => by simp
    | true => hg
  rw [bchShift_def]
  exact Nat.xor_lt_two_pow hshift (hgate _)

theorem bchParity_concat (r g : Nat) (u : List Bool) (b : Bool) :
    bchParity r g (u ++ [b]) = bchShift r (g ^^^ 2 ^ r) (bchParity r g u) b := by
  simp [bchParity]

theorem bchParity_lt (hg : g ^^^ 2 ^ r < 2 ^ r) (u : List Bool) : bchParity r g u < 2 ^ r := by
  induction u using List.reverseRecOn with
  | nil => simp [bchParity]
  | append_singleton u b _ => rw [bchParity_concat]; exact bchShift_lt hg b

/-- One step of the register is multiplication by x, the message bit entering at x^r, less a multiple of the generator. -/
theorem bchShift_eq (hreg : reg < 2 ^ r) (b : Bool) :
    bchShift r (g ^^^ 2 ^ r) reg b =
      Nat.bit false reg ^^^ gated b (2 ^ r) ^^^ gated (b ^^ reg.testBit (r - 1)) g := by
  rw [bchShift_def, shiftLeft_one_mod hreg, gated_xor, gated_xor_flags b _ (2 ^ r)]
  simp [Nat.xor_assoc, Nat.xor_left_comm]

/-- The message times x^r plus its parity is a multiple of the generator (R168, R171). -/
theorem exists_polyMul_eq_parity (hg : g ^^^ 2 ^ r < 2 ^ r) (u : List Bool) :
    ∃ q, natOfBits u <<< r ^^^ bchParity r g u = polyMul g q := by
  induction u using List.reverseRecOn with
  | nil => exact ⟨0, by simp [natOfBits, bchParity]⟩
  | append_singleton u b ih =>
    obtain ⟨q, hq⟩ := ih
    have hreg := bchParity_lt hg u
    refine ⟨Nat.bit (b != (bchParity r g u).testBit (r - 1)) q, ?_⟩
    have hmsg : natOfBits (u ++ [b]) <<< r = Nat.bit false (natOfBits u <<< r) ^^^ gated b (2 ^ r) := by
      rw [natOfBits_concat, bit_eq_xor, Nat.shiftLeft_xor_distrib]
      cases b <;> simp [Nat.shiftLeft_eq, Nat.mul_assoc]
    rw [polyMul_bit, ← hq, hmsg, bchParity_concat, bchShift_eq hreg, bit_false_xor]
    simp [Nat.xor_assoc, Nat.xor_left_comm]

/-- Every codeword is a multiple of the generator, where this has the degree the encoder takes it to have. -/
theorem exists_polyMul_eq_bchEncode (hg : g ≠ 0) (hdeg : Nat.log2 g = r) (u : List Bool) :
    ∃ q, natOfBits (bchEncode r g u) = polyMul g q := by
  have hlow := xor_leading_lt hg hdeg
  rw [bchEncode, natOfBits_append, bitsOfNat_length, natOfBits_bitsOfNat (bchParity_lt hlow u)]
  exact exists_polyMul_eq_parity hlow u

end

/-- BCHENC with its input FULL and its output EMPTY (R170). -/
theorem exec_bchenc {s : State} {p : Prof} {u : List Bool} (hp : s.session = .active p) (hin : s.tb0 = some u)
    (hout : s.tb1 = none) :
    exec .bchenc s = .next (respond 0x00 0
      { s with tb0 := none, tb1 := some (bchEncode (p.row.m * p.row.t) (profGenerator s.rom p) u) }) := by
  simp only [exec, execBchenc, whenActive_active hp, hin, hout, respondOk_eq]

/-- Settles O27: the shift register divides by the generator. -/
theorem bchencMakesCodeword : Obligations.BchencMakesCodeword := by
  intro s p u hp hin hout
  exact ⟨bitsOfNat (p.row.m * p.row.t) (bchParity (p.row.m * p.row.t) (profGenerator s.rom p) u),
    exec_bchenc hp hin hout, bitsOfNat_length _ _, fun hg hdeg => exists_polyMul_eq_bchEncode hg hdeg u⟩

/-! ### Linearity -/

/-- One step of the register is linear in the register and the message bit together. -/
theorem bchShift_xor (r gLow reg reg' : Nat) (b b' : Bool) :
    bchShift r gLow (reg ^^^ reg') (b ^^ b') = bchShift r gLow reg b ^^^ bchShift r gLow reg' b' := by
  have hflag : ((b ^^ b') ^^ (reg ^^^ reg').testBit (r - 1)) =
      ((b ^^ reg.testBit (r - 1)) ^^ (b' ^^ reg'.testBit (r - 1))) := by
    simp [Nat.testBit_xor, Bool.xor_left_comm]
  simp only [bchShift_def, hflag, gated_xor_flags, Nat.shiftLeft_xor_distrib, Nat.xor_mod_two_pow]
  simp only [Nat.xor_assoc, Nat.xor_left_comm]

theorem foldl_bchShift_xor (r gLow : Nat) {a b : List Bool} (h : a.length = b.length) (reg reg' : Nat) :
    (List.zipWith Bool.xor a b).foldl (bchShift r gLow) (reg ^^^ reg') =
      a.foldl (bchShift r gLow) reg ^^^ b.foldl (bchShift r gLow) reg' := by
  induction a generalizing b reg reg' with
  | nil => obtain rfl := List.length_eq_zero_iff.1 h.symm; rfl
  | cons x a ih =>
    obtain ⟨y, b, rfl⟩ := List.exists_cons_of_length_eq_add_one h.symm
    rw [List.zipWith_cons_cons, List.foldl_cons, List.foldl_cons, List.foldl_cons, bchShift_xor]
    exact ih (Nat.succ.inj h) _ _

/-- Settles O28, from the linearity of one step of the register. -/
theorem bchEncoderLinear : Obligations.BchEncoderLinear := by
  intro r g a b h
  have hparity : bchParity r g (List.zipWith Bool.xor a b) = bchParity r g a ^^^ bchParity r g b :=
    foldl_bchShift_xor r _ h 0 0
  rw [bchEncode, bchEncode, bchEncode, hparity, bitsOfNat_xor, List.zipWith_append h]

end Sys2Proof.Machine
end

section
/-! PROOFS of the family 41_bch.md, the decoder: a delivered word has zero syndromes and lies within t flips of the received
one (R175, R180, R181), and the TOY code corrects two flips (R185). The second rests on two facts for every code: an encoded
word vanishes at each root of its generator, and the decoder commutes with adding a word whose syndromes are 0. -/

namespace Sys2Proof.Machine

open Sys2Proof.Safety

/-! ### The field operations are linear -/

/-- One step of `gfMul`: the sum so far, and the multiple of the first factor that the next coefficient selects. -/
def gfMulStep (f : GField) (b : Nat) (acc : Nat × Nat) (i : Nat) : Nat × Nat :=
  (if b.testBit i then acc.1 ^^^ acc.2 else acc.1, gfMulAlpha f acc.2)

theorem gfMul_eq_foldl (f : GField) (a b : Nat) : gfMul f a b = ((List.range f.m).foldl (gfMulStep f b) (0, a)).1 := rfl

theorem gfMulAlpha_eq (f : GField) (a : Nat) : gfMulAlpha f a = a <<< 1 ^^^ gated ((a <<< 1).testBit f.m) f.poly :=
  ite_xor_eq_gated _ _ _

theorem gfMulAlpha_xor (f : GField) (a b : Nat) : gfMulAlpha f (a ^^^ b) = gfMulAlpha f a ^^^ gfMulAlpha f b := by
  simp only [gfMulAlpha_eq, Nat.shiftLeft_xor_distrib, Nat.testBit_xor, gated_xor_flags]
  simp only [Nat.xor_assoc, Nat.xor_left_comm]

theorem gfMulStep_eq (f : GField) (b i : Nat) (acc : Nat × Nat) :
    gfMulStep f b acc i = (acc.1 ^^^ gated (b.testBit i) acc.2, gfMulAlpha f acc.2) :=
  congrArg (·, _) (ite_xor_eq_gated _ _ _)

theorem foldl_gfMulStep_xor (f : GField) (b : Nat) (is : List Nat) (p q : Nat × Nat) :
    (is.foldl (gfMulStep f b) (p.1 ^^^ q.1, p.2 ^^^ q.2)).1 =
      (is.foldl (gfMulStep f b) p).1 ^^^ (is.foldl (gfMulStep f b) q).1 := by
  induction is generalizing p q with
  | nil => rfl
  | cons i is ih =>
    rw [List.foldl_cons, List.foldl_cons, List.foldl_cons, ← ih]
    simp only [gfMulStep_eq, gfMulAlpha_xor, gated_xor, Nat.xor_assoc, Nat.xor_left_comm]

theorem gfMul_xor_left (f : GField) (a b x : Nat) : gfMul f (a ^^^ b) x = gfMul f a x ^^^ gfMul f b x := by
  rw [gfMul_eq_foldl, gfMul_eq_foldl, gfMul_eq_foldl, ← foldl_gfMulStep_xor, Nat.xor_zero]

@[simp] theorem gfMul_zero_left (f : GField) (x : Nat) : gfMul f 0 x = 0 := by
  simpa using gfMul_xor_left f 0 0 x

/-! ### Values of polynomials over GF(2) -/

/-- The value at `x` of the polynomial over GF(2) that a number is (00_scope.md R13). -/
def evalNat (f : GField) (x n : Nat) : Nat := evalBits f x n.bits.reverse

@[simp] theorem evalNat_zero (f : GField) (x : Nat) : evalNat f x 0 = 0 := by simp [evalNat, evalBits]

theorem evalBits_concat (f : GField) (x : Nat) (l : List Bool) (b : Bool) :
    evalBits f x (l ++ [b]) = gfMul f (evalBits f x l) x ^^^ b.toNat := by
  simp [evalBits]

theorem evalNat_bit (f : GField) (x n : Nat) (b : Bool) :
    evalNat f x (Nat.bit b n) = gfMul f (evalNat f x n) x ^^^ b.toNat := by
  by_cases h : n = 0 → b = true
  · rw [evalNat, Nat.bits_append_bit n b h, List.reverse_cons, evalBits_concat, evalNat]
  · obtain ⟨rfl, hb⟩ := Classical.not_imp.1 h
    simp [Bool.not_eq_true _ ▸ hb]

theorem evalBits_eq_evalNat (f : GField) (x : Nat) (l : List Bool) : evalBits f x l = evalNat f x (natOfBits l) := by
  induction l using List.reverseRecOn with
  | nil => simp [evalBits, natOfBits]
  | append_singleton l b ih => rw [evalBits_concat, natOfBits_concat, evalNat_bit, ih]

theorem evalNat_xor (f : GField) (x a b : Nat) : evalNat f x (a ^^^ b) = evalNat f x a ^^^ evalNat f x b := by
  induction a using Nat.binaryRec generalizing b with
  | zero => simp
  | bit c a ih =>
    cases b using Nat.bitCasesOn with
    | bit d b =>
      have hbit : (c != d).toNat = c.toNat ^^^ d.toNat := by cases c <;> cases d <;> rfl
      rw [Nat.xor_bit, evalNat_bit, evalNat_bit, evalNat_bit, ih, gfMul_xor_left, hbit]
      simp only [Nat.xor_assoc, Nat.xor_left_comm]

/-- A root of `g` is a root of each of its multiples. -/
theorem evalNat_polyMul_eq_zero {f : GField} {x g : Nat} (hroot : evalNat f x g = 0) (q : Nat) :
    evalNat f x (polyMul g q) = 0 := by
  have hgate : ∀ c, evalNat f x (gated c g) = 0
    | false => evalNat_zero f x
    | true => hroot
  induction q using Nat.binaryRec with
  | zero => simp
  | bit b q ih => rw [polyMul_bit, evalNat_xor, hgate, evalNat_bit, ih]; simp

/-- An encoded word vanishes at each root of the generator (R171). -/
theorem evalBits_bchEncode_eq_zero {f : GField} {x r g : Nat} (hg : g ≠ 0) (hdeg : Nat.log2 g = r)
    (hroot : evalNat f x g = 0) (u : List Bool) : evalBits f x (bchEncode r g u) = 0 := by
  obtain ⟨q, hq⟩ := exists_polyMul_eq_bchEncode hg hdeg u
  rw [evalBits_eq_evalNat, hq, evalNat_polyMul_eq_zero hroot]

theorem natOfBits_zipWith_xor {a b : List Bool} (h : a.length = b.length) :
    natOfBits (List.zipWith Bool.xor a b) = natOfBits a ^^^ natOfBits b := by
  refine Nat.eq_of_testBit_eq fun k => ?_
  rw [Nat.testBit_xor, natOfBits_testBit, natOfBits_testBit, natOfBits_testBit, List.reverse_zipWith h]
  by_cases hk : k < a.length
  · simp [hk, h ▸ hk]
  · simp [hk, h ▸ hk]

theorem evalBits_xor (f : GField) (x : Nat) {a b : List Bool} (h : a.length = b.length) :
    evalBits f x (List.zipWith Bool.xor a b) = evalBits f x a ^^^ evalBits f x b := by
  rw [evalBits_eq_evalNat, natOfBits_zipWith_xor h, evalNat_xor, ← evalBits_eq_evalNat, ← evalBits_eq_evalNat]

/-! ### Words and error patterns -/

theorem zipWith_xor_assoc (a b c : List Bool) :
    List.zipWith Bool.xor (List.zipWith Bool.xor a b) c = List.zipWith Bool.xor a (List.zipWith Bool.xor b c) := by
  simp only [List.zipWith_zipWith_left, List.zipWith_zipWith_right, Bool.xor_assoc]

theorem zipWith_xor_replicate_false {n : Nat} {y : List Bool} (h : y.length = n) :
    List.zipWith Bool.xor y (List.replicate n false) = y :=
  List.ext_getElem (by simp [h]) (by simp)

/-- The exclusive-or of a word and the same word with flips is the flips. -/
theorem zipWith_xor_flips {y flips : List Bool} (h : flips.length = y.length) :
    List.zipWith Bool.xor (List.zipWith Bool.xor y flips) y = flips :=
  List.ext_getElem (by simp [h]) fun i _ _ => by simp [Bool.xor_comm flips[i]]

/-! ### What the decoder answers -/

section
variable {f : GField} {t : Nat} {y c : List Bool}

/-- A word whose syndromes are all 0, as the decoder tests it (R176). -/
def ZeroSyndromes (f : GField) (t : Nat) (c : List Bool) : Prop := (syndromes f t c).all (· == 0) = true

theorem zeroSyndromes_iff : ZeroSyndromes f t c ↔ ∀ x ∈ gfPowers f 2 (2 * t) 2, evalBits f x c = 0 := by
  simp [ZeroSyndromes, syndromes]

theorem syndromes_xor (hc : ZeroSyndromes f t c) (h : c.length = y.length) :
    syndromes f t (List.zipWith Bool.xor c y) = syndromes f t y := by
  refine List.map_congr_left fun x hx => ?_
  rw [evalBits_xor f x h, zeroSyndromes_iff.1 hc x hx, Nat.zero_xor]

theorem bmLocator_len_le {syn lambda : List Nat} {len : Nat} (h : bmLocator f t syn = some (lambda, len)) : len ≤ t := by
  unfold bmLocator at h
  dsimp only at h
  split at h
  · contradiction
  · next hok =>
    obtain ⟨-, rfl⟩ := Prod.mk.inj (Option.some.inj h)
    omega

theorem bchDecode_of_zeroSyndromes (h : ZeroSyndromes f t y) : bchDecode f t y = some (y, 0) := if_pos h

theorem bchDecode_of_locator {lambda : List Nat} {len : Nat} (hy : ¬ ZeroSyndromes f t y)
    (hloc : bmLocator f t (syndromes f t y) = some (lambda, len))
    (hcount : (chienFlags f lambda y.length).count true = len)
    (hfixed : ZeroSyndromes f t (List.zipWith Bool.xor y (chienFlags f lambda y.length))) :
    bchDecode f t y = some (List.zipWith Bool.xor y (chienFlags f lambda y.length), len) := by
  simp only [ZeroSyndromes] at hy hfixed
  simp only [bchDecode, if_neg hy, hloc, hcount, ne_eq, not_true_eq_false, if_false, if_pos hfixed]

/-- What a decoded word is: the received one with `e` flips, within the radius, and with zero syndromes (R175, R179). -/
theorem bchDecode_some {e : Nat} (h : bchDecode f t y = some (c, e)) :
    ∃ flips : List Bool, flips.length = y.length ∧ flips.count true = e ∧ e ≤ t ∧
      c = List.zipWith Bool.xor y flips ∧ ZeroSyndromes f t c := by
  unfold bchDecode at h
  dsimp only at h
  split at h
  · next hzero =>
    obtain ⟨rfl, rfl⟩ := Prod.mk.inj (Option.some.inj h)
    exact ⟨List.replicate y.length false, List.length_replicate, by simp [List.count_replicate], Nat.zero_le _,
      (zipWith_xor_replicate_false rfl).symm, hzero⟩
  split at h
  · contradiction
  next lambda len hloc =>
  split at h
  · contradiction
  next hcount =>
  split at h
  · next hzero =>
    obtain ⟨rfl, rfl⟩ := Prod.mk.inj (Option.some.inj h)
    exact ⟨_, chienFlags_length .., not_not.1 hcount, bmLocator_len_le hloc, rfl, hzero⟩
  · contradiction

/-- The decoder commutes with adding a word whose syndromes are 0: its decision sees the error pattern alone. -/
theorem bchDecode_xor (hc : ZeroSyndromes f t c) (hlen : c.length = y.length) :
    bchDecode f t (List.zipWith Bool.xor c y) =
      (bchDecode f t y).map fun w => (List.zipWith Bool.xor c w.1, w.2) := by
  have hword : (List.zipWith Bool.xor c y).length = y.length := by simp [hlen]
  have hfixed : ∀ lambda,
      syndromes f t (List.zipWith Bool.xor c (List.zipWith Bool.xor y (chienFlags f lambda y.length))) =
        syndromes f t (List.zipWith Bool.xor y (chienFlags f lambda y.length)) := fun lambda =>
    syndromes_xor hc (by simp [hlen])
  simp only [bchDecode, syndromes_xor hc hlen, hword, zipWith_xor_assoc, hfixed]
  split
  · rfl
  split
  · rfl
  split
  · rfl
  · split <;> rfl

/-- The decision of the decoder on the error pattern `e`: its syndromes are all 0 only where it has no flip, and the locator
found from them has the flips of `e` as its roots among `points` and their number as its length (R177, R178). -/
def locatesFlips (f : GField) (t : Nat) (points : List Nat) (e : List Bool) : Bool :=
  (!(syndromes f t e).all (· == 0) || e.count true == 0) &&
  match bmLocator f t (syndromes f t e) with
  | none => false
  | some (lambda, len) => len == e.count true && (points.map fun x => evalPoly f x lambda == 0) == e.reverse

theorem zeroSyndromes_xor_self (f : GField) (t : Nat) (e : List Bool) : ZeroSyndromes f t (List.zipWith Bool.xor e e) :=
  zeroSyndromes_iff.2 fun x _ => by rw [evalBits_xor f x rfl, Nat.xor_self]

/-- A pattern whose flips the locator finds decodes to the zero word, with its weight as the count. -/
theorem bchDecode_of_locatesFlips {points : List Nat} {e : List Bool}
    (hpoints : gfPowers f (gfInv f 2) e.length 1 = points) (h : locatesFlips f t points e = true) :
    bchDecode f t e = some (List.replicate e.length false, e.count true) := by
  obtain ⟨hsyn, hloc⟩ := (Bool.and_eq_true _ _).mp h
  have hself : List.zipWith Bool.xor e e = List.replicate e.length false := by simp [List.zipWith_self]
  by_cases hzero : ZeroSyndromes f t e
  · have hcount : e.count true = 0 := by simpa [show (syndromes f t e).all (· == 0) = true from hzero] using hsyn
    have hword : e = List.replicate e.length false :=
      List.eq_replicate_iff.2 ⟨rfl, fun b hb => by
        cases b
        · rfl
        · exact absurd hb (List.count_eq_zero.1 hcount)⟩
    rw [bchDecode_of_zeroSyndromes hzero, ← hword, hcount]
  · split at hloc
    · contradiction
    · next lambda len hbm =>
      obtain ⟨rfl, hroots⟩ : len = e.count true ∧ _ = e.reverse := by simpa using hloc
      have hflips : chienFlags f lambda e.length = e := by rw [chienFlags, hpoints, hroots, List.reverse_reverse]
      have hfixed := zeroSyndromes_xor_self f t e
      rw [bchDecode_of_locator hzero hbm (by rw [hflips]) (by rwa [hflips]), hflips, hself]

/-- Adding a word whose syndromes are 0 to a pattern that decodes to the zero word. -/
theorem bchDecode_codeword_xor {e : List Bool} {k n : Nat} (hc : ZeroSyndromes f t c) (hlen : c.length = n)
    (he : e.length = n) (h : bchDecode f t e = some (List.replicate n false, k)) :
    bchDecode f t (List.zipWith Bool.xor c e) = some (c, k) := by
  rw [bchDecode_xor hc (hlen.trans he.symm), h, Option.map_some, zipWith_xor_replicate_false hlen]

end

section
variable {s : State} {p : Prof} {y : TaggedFrame}

theorem exec_bchdec_some {c : List Bool} {e : Nat} (hp : s.session = .active p) (hin : s.rb1 = some y) (hout : s.rb0 = none)
    (hdec : bchDecode (profField s.rom p) p.row.t y.bits = some (c, e)) :
    exec .bchdec s = .next (respond 0x00 (BitVec.ofNat 32 e)
      { s with rb1 := none, rb0 := some (c.take p.row.kbch), bchErrcnt := BitVec.ofNat 32 e }) := by
  simp only [exec, execBchdec, whenActive_active hp, hin, hout, hdec, respondOk_eq]

theorem exec_bchdec_none (hp : s.session = .active p) (hin : s.rb1 = some y) (hout : s.rb0 = none)
    (hdec : bchDecode (profField s.rom p) p.row.t y.bits = none) :
    exec .bchdec s = .next (respond 0x82 1
      (raiseExc .uncorrectableFrame { s with rb1 := none, bchErrcnt := 0xFFFFFFFF })) := by
  simp only [exec, execBchdec, whenActive_active hp, hin, hout, hdec, failWith_eq]
  rfl

end

/-- Settles O29, from what a decoded word is and the two answers of BCHDEC. -/
theorem bchdecBounded : Obligations.BchdecBounded := by
  intro s p y hp hin hout
  refine ⟨fun c e hdec => ?delivered, fun hdec => ?failed⟩
  case delivered =>
    obtain ⟨flips, hlen, hcount, hle, rfl, hzero⟩ := bchDecode_some hdec
    refine ⟨bchDecode_length hdec, hle, ?_, by simpa [ZeroSyndromes] using hzero, exec_bchdec_some hp hin hout hdec⟩
    rw [zipWith_xor_flips hlen, hcount]
  case failed => exact exec_bchdec_none hp hin hout hdec

/-! ### The TOY code -/

/-- The words of length `n` with at most `w` bits set. -/
def errorPatterns : Nat → Nat → List (List Bool)
  | 0, _ => [[]]
  | n + 1, 0 => (errorPatterns n 0).map (false :: ·)
  | n + 1, w + 1 => (errorPatterns n (w + 1)).map (false :: ·) ++ (errorPatterns n w).map (true :: ·)

theorem mem_errorPatterns {e : List Bool} {w : Nat} (h : e.count true ≤ w) : e ∈ errorPatterns e.length w := by
  induction e generalizing w with
  | nil => simp [errorPatterns]
  | cons b e ih =>
    cases b with
    | false =>
      have htail := ih (w := w) (by simpa using h)
      cases w <;> simp [errorPatterns, htail]
    | true =>
      rw [List.count_cons_self] at h
      obtain ⟨w, rfl⟩ := Nat.exists_eq_add_of_le' (Nat.one_le_of_lt h)
      simp [errorPatterns, ih (Nat.le_of_succ_le_succ h)]

/-- The generator of the TOY code vanishes at alpha, ..., alpha^4, the points of its syndromes (R176, R185). -/
theorem toyGenerator_roots : ∀ x ∈ gfPowers ⟨5, 0x25⟩ 2 4 2, evalNat ⟨5, 0x25⟩ x 0x769 = 0 := by
  have hbits : ∀ x ∈ gfPowers ⟨5, 0x25⟩ 2 4 2, evalBits ⟨5, 0x25⟩ x (bitsOfNat 11 0x769) = 0 := by decide +kernel
  intro x hx
  rw [← natOfBits_bitsOfNat (show 0x769 < 2 ^ 11 by decide), ← evalBits_eq_evalNat, hbits x hx]

theorem toyCodeword_zeroSyndromes (u : List Bool) : ZeroSyndromes ⟨5, 0x25⟩ 2 (bchEncode 10 0x769 u) :=
  zeroSyndromes_iff.2 fun x hx =>
    evalBits_bchEncode_eq_zero (by decide) (by decide) (toyGenerator_roots x hx) u

/-- The points of the Chien search over a word of the TOY code: the powers of 1 / alpha. -/
def toyChienPoints : List Nat := [1, 18, 9, 22, 11, 23, 25, 30, 15, 21, 24, 12, 6, 3, 19, 27, 31, 29]

theorem gfPowers_toyChienPoints : gfPowers ⟨5, 0x25⟩ (gfInv ⟨5, 0x25⟩ 2) 18 1 = toyChienPoints := by decide +kernel

theorem locatesFlips_toyPatterns : ∀ e ∈ errorPatterns 18 2, locatesFlips ⟨5, 0x25⟩ 2 toyChienPoints e = true := by
  decide +kernel

/-- Settles O30: the locator finds every pattern of at most two flips, and adding a codeword changes nothing in that. -/
theorem toyBchCorrectsTwo : Obligations.ToyBchCorrectsTwo := by
  refine ⟨by decide +kernel, fun u e hu he hweight => ?_⟩
  have hlocates := locatesFlips_toyPatterns e (he ▸ mem_errorPatterns hweight)
  have hpattern := bchDecode_of_locatesFlips (by rw [he, gfPowers_toyChienPoints]) hlocates
  exact bchDecode_codeword_xor (toyCodeword_zeroSyndromes u) (by simp [hu, he]) rfl hpattern

end Sys2Proof.Machine
end

section
/-! PROOFS of the family 42_ldpc.md, the encoder: the word LDPCENC leaves satisfies every parity check (R202, R204, R205). The
accumulator of check j holds the exclusive-or of the information bits of A_j, and p[j] differs from p[j-1] by exactly that. -/

namespace Sys2Proof.Machine

/-! ### Exclusive-or and accumulators -/

@[simp] theorem xorAll_nil : xorAll [] = false := rfl

@[simp] theorem xorAll_singleton (b : Bool) : xorAll [b] = b := Bool.false_xor b

theorem xorAll_append (a b : List Bool) : xorAll (a ++ b) = (xorAll a ^^ xorAll b) := by
  calc xorAll (a ++ b) = b.foldl Bool.xor (xorAll a ^^ false) := by rw [Bool.xor_false, xorAll, List.foldl_append, xorAll]
    _ = (xorAll a ^^ xorAll b) := List.foldl_assoc

/-- One information bit `b` added to the accumulators of its checks `js` (R205). -/
def addToChecks (b : Bool) (js : List Nat) (acc : List Bool) : List Bool :=
  js.foldl (fun p j => p.modify j (fun x => x != b)) acc

@[simp] theorem addToChecks_length (b : Bool) (js : List Nat) (acc : List Bool) :
    (addToChecks b js acc).length = acc.length := foldl_modify_length js b acc

theorem getD_modify_xor {acc : List Bool} (b : Bool) (k : Nat) {j : Nat} (hj : j < acc.length) :
    (acc.modify k (fun x => x != b)).getD j false = (acc.getD j false ^^ (decide (j = k) && b)) := by
  rw [List.getD_eq_getElem _ _ (by simpa using hj), List.getD_eq_getElem _ _ hj, List.getElem_modify]
  by_cases h : k = j
  · simp [h]
  · simp [h, Ne.symm h]

/-- A check gets the bit once where it stands once among the checks of the bit (R204). -/
theorem addToChecks_getD {js : List Nat} (hnodup : js.Nodup) (b : Bool) {acc : List Bool} {j : Nat} (hj : j < acc.length) :
    (addToChecks b js acc).getD j false = (acc.getD j false ^^ (decide (j ∈ js) && b)) := by
  induction js generalizing acc with
  | nil => simp [addToChecks]
  | cons k js ih =>
    obtain ⟨hk, hjs⟩ := List.nodup_cons.1 hnodup
    rw [addToChecks, List.foldl_cons, ← addToChecks, ih hjs (by simpa using hj), getD_modify_xor b k hj]
    by_cases hjk : j = k
    · simp [hjk, hk]
    · simp [hjk]

/-! ### The accumulate loop -/

section
variable (c : LdpcCode)

theorem accumulate_concat (m : Nat) (i : List Bool) (b : Bool) (acc : List Bool) :
    accumulate c m (i ++ [b]) acc = addToChecks b (bitChecks c (m + i.length)) (accumulate c m i acc) := by
  induction i generalizing m acc with
  | nil => rfl
  | cons x i ih =>
    rw [List.cons_append, accumulate, ih, accumulate, List.length_cons, Nat.add_right_comm, Nat.add_assoc]

/-- The information bits that enter check `j`: A_j of R202, over the first `n` of them. -/
def infoMembers (n j : Nat) : List Nat := (List.range n).filter (fun m => (bitChecks c m).contains j)

theorem infoMembers_succ (n j : Nat) :
    infoMembers c (n + 1) j = infoMembers c n j ++ if (bitChecks c n).contains j then [n] else [] := by
  rw [infoMembers, List.range_succ, List.filter_append, List.filter_singleton]
  cases (bitChecks c n).contains j <;> rfl

theorem map_infoMembers_append {i : List Bool} (tail : List Bool) {n : Nat} (hn : n ≤ i.length) (j : Nat) :
    (infoMembers c n j).map (fun m => (i ++ tail).getD m false) = (infoMembers c n j).map (fun m => i.getD m false) :=
  List.map_congr_left fun _ hm =>
    List.getD_append _ _ _ _ ((List.mem_range.1 (List.mem_filter.1 hm).1).trans_le hn)

/-- After the loop, the accumulator of check `j` is the exclusive-or of its information bits. -/
theorem accumulate_getD {i : List Bool} (hnodup : ∀ m < i.length, (bitChecks c m).Nodup) {j : Nat} (hj : j < c.npar) :
    (accumulate c 0 i (List.replicate c.npar false)).getD j false =
      xorAll ((infoMembers c i.length j).map (fun m => i.getD m false)) := by
  induction i using List.reverseRecOn with
  | nil => simp [accumulate, infoMembers]
  | append_singleton i b ih =>
    have hbefore := ih fun m hm => hnodup m (by simp; omega)
    have hlast := hnodup i.length (by simp)
    rw [accumulate_concat, Nat.zero_add, addToChecks_getD hlast b (by simpa using hj), hbefore, List.length_append,
      List.length_singleton, infoMembers_succ, List.map_append, map_infoMembers_append c [b] le_rfl, xorAll_append]
    by_cases h : j ∈ bitChecks c i.length <;> simp [h]

end

/-! ### The parity bits -/

/-- Each bit of the running exclusive-or is the input bit added to the bit before it, the first of these being `prev`. -/
theorem runningXor_getD {prev : Bool} {l : List Bool} {j : Nat} (hj : j < l.length) :
    (runningXor prev l).getD j false = (l.getD j false ^^ (prev :: runningXor prev l).getD j false) := by
  induction l generalizing prev j with
  | nil => simp at hj
  | cons b l ih =>
    cases j with
    | zero => rfl
    | succ j => simpa [runningXor] using ih (prev := b != prev) (j := j) (by simpa using hj)

/-- p[j-1] xor p[j] is the accumulator of check `j`, with p[-1] = 0 (R205). -/
theorem ldpcParity_xor_previous (c : LdpcCode) (i : List Bool) {j : Nat} (hj : j < c.npar) :
    ((false :: ldpcParity c i).getD j false ^^ (ldpcParity c i).getD j false) =
      (accumulate c 0 i (List.replicate c.npar false)).getD j false := by
  rw [ldpcParity, runningXor_getD (by simpa using hj), Bool.xor_left_comm, Bool.xor_self, Bool.xor_false]

/-- The parity members of check `j` add up to p[j] xor p[j-1] (R202). -/
theorem xorAll_parityMembers {i : List Bool} {k : Nat} (hlen : i.length = k) (par : List Bool) (j : Nat) :
    xorAll ((if j = 0 then [k] else [k + j - 1, k + j]).map (fun v => (i ++ par).getD v false)) =
      ((false :: par).getD j false ^^ par.getD j false) := by
  have hpar (n : Nat) : (i ++ par).getD (k + n) false = par.getD n false := by
    rw [List.getD_append_right _ _ _ _ (by omega), hlen, Nat.add_sub_cancel_left]
  cases j with
  | zero => simpa using hpar 0
  | succ j => simpa [xorAll, ← Nat.add_assoc] using congrArg₂ Bool.xor (hpar j) (hpar (j + 1))

/-! ### The checks of an encoded word -/

theorem checksHold_iff {checks : List (List Nat)} {z : List Bool} :
    checksHold checks z = true ↔ ∀ vs ∈ checks, xorAll (vs.map (fun v => z.getD v false)) = false := by
  simp [checksHold]

section
variable {c : LdpcCode} {i : List Bool} (hlen : i.length = c.kldpc) (hnodup : ∀ m, m < c.kldpc → (bitChecks c m).Nodup)
include hlen hnodup

theorem xorAll_checkIndices_encoded {j : Nat} (hj : j < c.npar) :
    xorAll ((checkIndices c j).map (fun v => (i ++ ldpcParity c i).getD v false)) = false := by
  rw [checkIndices, List.map_append, xorAll_append, xorAll_parityMembers hlen, ldpcParity_xor_previous c i hj,
    accumulate_getD c (hlen ▸ hnodup) hj, ← infoMembers, map_infoMembers_append c _ hlen.ge, hlen, Bool.xor_self]

theorem checksHold_encoded : checksHold (ldpcChecks c) (i ++ ldpcParity c i) = true := by
  rw [checksHold_iff, ldpcChecks, List.forall_mem_map]
  exact fun j hj => xorAll_checkIndices_encoded hlen hnodup (List.mem_range.1 hj)

end

/-- LDPCENC with its input FULL and its output EMPTY (R205). -/
theorem exec_ldpcenc {s : State} {p : Prof} {i : List Bool} (hp : s.session = .active p) (hin : s.tb1 = some i)
    (hout : s.tb2 = none) :
    exec .ldpcenc s = .next (respond 0x00 0 { s with tb1 := none, tb2 := some (i ++ ldpcParity (profLdpc s.rom p) i) }) := by
  simp only [exec, execLdpcenc, whenActive_active hp, hin, hout, respondOk_eq]

/-- Settles O31: the parity bits are those of R205, and the checks hold for them. -/
theorem ldpcencSatisfiesChecks : Obligations.LdpcencSatisfiesChecks := fun s p i hp hin hout =>
  ⟨ldpcParity (profLdpc s.rom p) i, exec_ldpcenc hp hin hout, ldpcParity_length _ _,
    fun hlen hnodup => checksHold_iff.1 (checksHold_encoded (c := profLdpc s.rom p) hlen hnodup)⟩

end Sys2Proof.Machine
end

section
/-! PROOFS of the family 42_ldpc.md, the decoder: the loop of R210 as a sequence of posteriors and messages, and what the decoder
answers of it (R209 to R211). The model keeps the messages as one list for each check; `messageLists` ties them to a function of
check and index, which the rules of R210 are about. -/

namespace Sys2Proof.Machine

open Sys2Proof.Safety

/-! ### The members of a check -/

theorem mem_checkIndices {c : LdpcCode} {j v : Nat} : v ∈ checkIndices c j ↔ covers c j v = true := by
  cases j with
  | zero => simp [checkIndices, covers]
  | succ j => simp [checkIndices, covers, ← Nat.add_assoc]; tauto

theorem covers_lt {c : LdpcCode} {j v : Nat} (hj : j < c.npar) (h : covers c j v = true) : v < c.kldpc + c.npar := by
  simp only [covers, Bool.or_eq_true, Bool.and_eq_true, decide_eq_true_eq, beq_iff_eq] at h
  omega

theorem checkIndices_pairwise_lt (c : LdpcCode) (j : Nat) : (checkIndices c j).Pairwise (· < ·) := by
  have hinfo : ((List.range c.kldpc).filter (fun m => (bitChecks c m).contains j)).Pairwise (· < ·) :=
    List.pairwise_lt_range.filter _
  refine List.pairwise_append.2 ⟨hinfo, ?ordered, fun m hm v hv => ?infoFirst⟩
  case ordered => cases j <;> simp
  case infoFirst =>
    have hlt : m < c.kldpc := List.mem_range.1 (List.mem_filter.1 hm).1
    have hle : c.kldpc ≤ v := by
      cases j with
      | zero => simp at hv; omega
      | succ j => simp at hv; omega
    exact hlt.trans_le hle

theorem checkIndices_nodup (c : LdpcCode) (j : Nat) : (checkIndices c j).Nodup := (checkIndices_pairwise_lt c j).nodup

/-- The members of a check are the indices it covers, in increasing order. -/
theorem checkIndices_eq_filter {c : LdpcCode} {j : Nat} (hj : j < c.npar) :
    checkIndices c j = (List.range (c.kldpc + c.npar)).filter (covers c j) := by
  refine (checkIndices_pairwise_lt c j).eq_of_mem_iff (List.pairwise_lt_range.filter _) fun v => ?_
  rw [mem_checkIndices, List.mem_filter, List.mem_range]
  exact ⟨fun h => ⟨covers_lt hj h, h⟩, And.right⟩

theorem otherValues_eq {c : LdpcCode} {j : Nat} (hj : j < c.npar) (v : Nat) (q : Nat → Int) :
    otherValues c j v q = ((checkIndices c j).filter (· != v)).map q := by
  rw [otherValues, checkIndices_eq_filter hj, List.filter_filter]
  simp only [Bool.and_comm]

/-! ### The messages of one check -/

/-- The min-sum message of the model is that of R210. -/
theorem minSum_eq_checkMessage (llrmax : Nat) (q : List Int) : minSum llrmax q = checkMessage llrmax q := by
  have hleast : (q.map (fun x => (x.natAbs : Int))).foldl min (llrmax : Int) =
      (((q.map Int.natAbs).foldl min llrmax : Nat) : Int) := by
    rw [List.foldl_map, List.foldl_map]
    exact List.foldl_hom (Nat.cast : Nat → Int) fun _ _ => (Nat.cast_min _ _).symm
  rw [minSum, checkMessage, hleast, List.prod_eq_foldl]
  rfl

/-- Leaving out one place of a list without repetition leaves out its element. -/
theorem checkToVariable_map {vs : List Nat} (hnodup : vs.Nodup) (llrmax : Int) (q : Nat → Int) :
    checkToVariable llrmax (vs.map q) = vs.map (fun v => minSum llrmax ((vs.filter (· != v)).map q)) := by
  refine List.ext_getElem (by simp [checkToVariable]) fun i hi hi' => ?_
  have hlt : i < vs.length := by simpa using hi'
  simp only [checkToVariable, List.getElem_map, List.getElem_range, List.eraseIdx_map,
    ← hnodup.erase_getElem i hlt, hnodup.erase_eq_filter]

/-! ### One iteration -/

/-- The messages `R` as the model keeps them, a list for each check in the order of its members. -/
def messageLists (c : LdpcCode) (R : Nat → Nat → Int) : List (List Int) :=
  (List.range c.npar).map fun j => (checkIndices c j).map (R j)

/-- The new messages of R210 from the old posteriors and messages. -/
def newMessage (c : LdpcCode) (llrmax : Nat) (P : Nat → Int) (R : Nat → Nat → Int) (j v : Nat) : Int :=
  checkMessage llrmax (otherValues c j v fun w => clampTo (P w - R j w) llrmax)

/-- The new posteriors of R210 from the clamped inputs and the new messages. -/
def newPosterior (c : LdpcCode) (llrmax : Nat) (l : List Int) (R : Nat → Nat → Int) (v : Nat) : Int :=
  clampTo (l.getD v 0 + (((List.range c.npar).filter (fun j => covers c j v)).map (fun j => R j v)).sum) llrmax

/-- One update of the messages of all checks in the model's loop (R210). -/
def updateMessages (llrmax : Int) (checks : List (List Nat)) (p : List Int) (r : List (List Int)) : List (List Int) :=
  List.zipWith (fun vs rs => checkToVariable llrmax (variableToCheck llrmax p vs rs)) checks r

section
variable {c : LdpcCode} (llrmax : Nat)

theorem variableToCheck_map {n : Nat} (P q : Nat → Int) {vs : List Nat} (hvs : ∀ v ∈ vs, v < n) :
    variableToCheck llrmax ((List.range n).map P) vs (vs.map q) = vs.map (fun v => clampTo (P v - q v) llrmax) := by
  rw [variableToCheck, List.zipWith_map_right, List.zipWith_self]
  refine List.map_congr_left fun v hv => ?_
  simp [hvs v hv]

theorem updateMessages_messageLists (P : Nat → Int) (R : Nat → Nat → Int) :
    updateMessages llrmax (ldpcChecks c) ((List.range (c.kldpc + c.npar)).map P) (messageLists c R) =
      messageLists c (newMessage c llrmax P R) := by
  rw [updateMessages, ldpcChecks, messageLists, List.zipWith_map, List.zipWith_self]
  refine List.map_congr_left fun j hj => ?_
  have hj : j < c.npar := List.mem_range.1 hj
  rw [variableToCheck_map llrmax P (R j) fun v hv => covers_lt hj (mem_checkIndices.1 hv),
    checkToVariable_map (checkIndices_nodup c j)]
  refine List.map_congr_left fun v _ => ?_
  rw [newMessage, otherValues_eq hj, minSum_eq_checkMessage]

/-- The message of one check to the index `v`, 0 where the check does not cover it. -/
theorem sum_members_eq (q : Nat → Int) (j v : Nat) :
    ((checkIndices c j).map (fun w => if w = v then q w else 0)).sum = if covers c j v = true then q v else 0 := by
  rw [List.sum_map_ite_eq, List.Nodup.count (checkIndices_nodup c j)]
  simp [mem_checkIndices]

theorem messageSum_messageLists (R : Nat → Nat → Int) (v : Nat) :
    messageSum (ldpcChecks c) (messageLists c R) v =
      (((List.range c.npar).filter (fun j => covers c j v)).map (fun j => R j v)).sum := by
  have hcheck (j : Nat) : (List.zipWith (fun w x => if w = v then x else 0) (checkIndices c j)
      ((checkIndices c j).map (R j))).sum = if covers c j v = true then R j v else 0 := by
    rw [List.zipWith_map_right, List.zipWith_self, sum_members_eq]
  rw [messageSum, ldpcChecks, messageLists, List.zipWith_map, List.zipWith_self]
  simp [hcheck, List.sum_map_ite]

theorem posteriors_messageLists {l : List Int} {n : Nat} (hl : l.length = n) (R : Nat → Nat → Int) :
    posteriors llrmax (ldpcChecks c) l (messageLists c R) = (List.range n).map (newPosterior c llrmax l R) := by
  refine List.ext_getElem (by simp [hl]) fun v hv hv' => ?_
  have hlt : v < l.length := by simpa using hv
  simp [posteriors, newPosterior, messageSum_messageLists, hlt]

end

/-! ### The sequence of posteriors and messages -/

/-- The posteriors and the messages of the model's loop after each number of iterations (R210). -/
def decoderState (llrmax : Int) (checks : List (List Nat)) (l : List Int) : Nat → List Int × List (List Int)
  | 0 => (l, checks.map fun vs => vs.map fun _ => 0)
  | k + 1 =>
    let r := updateMessages llrmax checks (decoderState llrmax checks l k).1 (decoderState llrmax checks l k).2
    (posteriors llrmax checks l r, r)

/-- The posteriors P and the messages R after each number of iterations, as functions (R210). -/
def beliefs (c : LdpcCode) (llrmax : Nat) (l : List Int) : Nat → (Nat → Int) × (Nat → Nat → Int)
  | 0 => (fun v => l.getD v 0, fun _ _ => 0)
  | k + 1 =>
    let R := newMessage c llrmax (beliefs c llrmax l k).1 (beliefs c llrmax l k).2
    (newPosterior c llrmax l R, R)

/-- The model's lists hold the posteriors and the messages of R210. -/
theorem decoderState_eq_beliefs {c : LdpcCode} (llrmax : Nat) {l : List Int} (hl : l.length = c.kldpc + c.npar) (k : Nat) :
    decoderState llrmax (ldpcChecks c) l k =
      ((List.range (c.kldpc + c.npar)).map (beliefs c llrmax l k).1, messageLists c (beliefs c llrmax l k).2) := by
  induction k with
  | zero =>
    have hposteriors : l = (List.range (c.kldpc + c.npar)).map (fun v => l.getD v 0) :=
      List.ext_getElem (by simp [hl]) fun v hv _ => by simp [hv]
    have hmessages : (ldpcChecks c).map (fun vs => vs.map fun _ => (0 : Int)) = messageLists c fun _ _ => 0 := by
      rw [ldpcChecks, List.map_map]
      rfl
    exact Prod.ext hposteriors hmessages
  | succ k ih =>
    rw [decoderState, ih, updateMessages_messageLists, posteriors_messageLists llrmax hl]
    rfl

/-! ### What the decoder answers -/

/-- What the loop answers from the iteration `first` on, with the limit `last` (R210, R211). -/
structure LoopAnswer (llrmax : Int) (checks : List (List Nat)) (l : List Int) (first last : Nat) (d : LdpcResult) : Prop where
  word_eq : d.word = hardBits (decoderState llrmax checks l d.iterations).1
  iterations_le : d.iterations ≤ last
  failsBefore : ∀ k, first ≤ k → k < d.iterations → checksHold checks (hardBits (decoderState llrmax checks l k).1) = false
  converged_eq : d.converged = checksHold checks d.word
  limit : d.converged = false → d.iterations = last

theorem ldpcLoop_answer (llrmax : Int) (checks : List (List Nat)) (l : List Int) (left it : Nat) :
    LoopAnswer llrmax checks l it (it + left) (ldpcLoop llrmax checks l left it (decoderState llrmax checks l it).1
      (decoderState llrmax checks l it).2) := by
  induction left generalizing it with
  | zero =>
    unfold ldpcLoop
    split
    · next h => exact ⟨rfl, le_rfl, fun k hk hlt => absurd hlt hk.not_gt, h.symm, fun _ => rfl⟩
    · next h => exact ⟨rfl, le_rfl, fun k hk hlt => absurd hlt hk.not_gt, (Bool.not_eq_true _ ▸ h).symm, fun _ => rfl⟩
  | succ left ih =>
    unfold ldpcLoop
    split
    · next h => exact ⟨rfl, Nat.le_add_right .., fun k hk hlt => absurd hlt hk.not_gt, h.symm, nofun⟩
    · next h =>
      obtain ⟨hword, hle, hfails, hconverged, hlimit⟩ := ih (it + 1)
      rw [Nat.add_right_comm, Nat.add_assoc] at hle hlimit
      refine ⟨hword, hle, fun k hk hlt => ?_, hconverged, hlimit⟩
      obtain rfl | hk := hk.eq_or_lt
      · exact Bool.not_eq_true _ ▸ h
      · exact hfails k hk hlt

/-- The inputs of the decoder, clamped (R209). -/
def clampedInputs (llrmax : Nat) (lin : List Llr) : List Int := lin.map fun x => clampTo x.toInt llrmax

theorem ldpcDecode_answer (c : LdpcCode) (llrmax maxiter : Nat) (lin : List Llr) :
    LoopAnswer llrmax (ldpcChecks c) (clampedInputs llrmax lin) 0 maxiter (ldpcDecode c llrmax maxiter lin) := by
  have h := ldpcLoop_answer llrmax (ldpcChecks c) (clampedInputs llrmax lin) maxiter 0
  rwa [Nat.zero_add] at h

/-- Where every check holds for the signs of the inputs, the decoder answers these signs without an iteration (R211). -/
theorem ldpcDecode_of_checksHold {c : LdpcCode} {llrmax maxiter : Nat} {lin : List Llr}
    (h : checksHold (ldpcChecks c) (hardBits (clampedInputs llrmax lin)) = true) :
    ldpcDecode c llrmax maxiter lin = ⟨hardBits (clampedInputs llrmax lin), true, 0⟩ := by
  rw [ldpcDecode, ldpcLoop.eq_def]
  exact if_pos h

/-- Clamping keeps the sign (R209). -/
theorem hardBits_clampedInputs {llrmax : Nat} (hmax : 1 ≤ llrmax) (lin : List Llr) :
    hardBits (clampedInputs llrmax lin) = lin.map (fun x => decide (x.toInt < 0)) := by
  rw [hardBits, clampedInputs, List.map_map]
  refine List.map_congr_left fun x _ => decide_eq_decide.2 ?_
  simp only [clampTo]
  omega

/-! ### LDPCDEC -/

section
variable {s : State} {p : Prof} {l : List Llr}

/-- LDPCDEC with its input FULL and its output EMPTY, where the decoder answers a word for which every check holds (R212). -/
theorem exec_ldpcdec_converged {z : List Bool} {it : Nat} (hp : s.session = .active p) (hin : s.rb2 = some l)
    (hout : s.rb1 = none) (hdec : ldpcDecode (profLdpc s.rom p) p.llrmax p.maxiter l = ⟨z, true, it⟩) :
    exec .ldpcdec s = .next (respond 0x00 (BitVec.ofNat 32 it)
      { s with rb2 := none, rb1 := some ⟨z.take p.row.kldpc, false⟩, ldpcIter := BitVec.ofNat 32 it }) := by
  simp only [exec, execLdpcdec, whenActive_active hp, hin, hout, hdec, respondOk_eq]
  simp [flagAt]

/-- The same where the iteration limit is reached: bit 16 of the response, `CNT_LDPCFAIL` and event bit 8 (R212). -/
theorem exec_ldpcdec_failed {z : List Bool} {it : Nat} (hp : s.session = .active p) (hin : s.rb2 = some l)
    (hout : s.rb1 = none) (hdec : ldpcDecode (profLdpc s.rom p) p.llrmax p.maxiter l = ⟨z, false, it⟩) :
    exec .ldpcdec s = .next (respond 0x00 (BitVec.ofNat 32 it ||| 0x10000)
      { s with
        rb2 := none, rb1 := some ⟨z.take p.row.kldpc, true⟩, ldpcIter := BitVec.ofNat 32 it
        cntLdpcfail := satInc s.cntLdpcfail, event := s.event ||| 0x100 }) := by
  simp only [exec, execLdpcdec, whenActive_active hp, hin, hout, hdec, respondOk_eq]
  rfl

end

/-- Settles O32: the command's two answers, and the loop as the sequence of R210. -/
theorem ldpcdecOutcome : Obligations.LdpcdecOutcome := by
  refine ⟨fun s p l hp hin hout => ?command, fun c llrmax maxiter lin hlen => ?decoder⟩
  case command =>
    have hword := ldpcDecode_word_length (profLdpc s.rom p) p.llrmax p.maxiter l
    obtain ⟨-, hle, -, hconverged, hlimit⟩ := ldpcDecode_answer (profLdpc s.rom p) p.llrmax p.maxiter l
    refine ⟨hword, hle, fun h => hlimit (hconverged.trans h), ?_⟩
    rw [← hconverged]
    generalize hdec : ldpcDecode (profLdpc s.rom p) p.llrmax p.maxiter l = d
    obtain ⟨z, converged, it⟩ := d
    cases converged with
    | true => simpa [respond] using exec_ldpcdec_converged hp hin hout hdec
    | false => exact exec_ldpcdec_failed hp hin hout hdec
  case decoder =>
    have hl : (clampedInputs llrmax lin).length = c.kldpc + c.npar := by simpa [clampedInputs] using hlen
    have hhard (k : Nat) : hardBits (decoderState llrmax (ldpcChecks c) (clampedInputs llrmax lin) k).1 =
        (List.range lin.length).map (fun v => decide ((beliefs c llrmax (clampedInputs llrmax lin) k).1 v < 0)) := by
      rw [decoderState_eq_beliefs llrmax hl, hardBits, List.map_map, hlen]
      rfl
    obtain ⟨hword, hle, hfails, hconverged, hlimit⟩ := ldpcDecode_answer c llrmax maxiter lin
    have hunsatisfied (k : Nat) (hk : k < (ldpcDecode c llrmax maxiter lin).iterations) :=
      (congrArg (checksHold (ldpcChecks c)) (hhard k)).symm.trans (hfails k k.zero_le hk)
    refine ⟨fun k => (beliefs c llrmax (clampedInputs llrmax lin) k).1,
      fun k => (beliefs c llrmax (clampedInputs llrmax lin) k).2, ?inputs, fun _ _ => rfl, fun _ _ _ _ _ _ => rfl,
      fun _ _ _ => rfl, hword.trans (hhard _), hle, hunsatisfied, hconverged, hlimit⟩
    case inputs =>
      intro v hv
      simp [beliefs, clampedInputs, clampTo, hv]

/-- Settles O33: every check holds for the signs of the LLRs, so the decoder answers them at once. -/
theorem ldpcCleanRoundTrip : Obligations.LdpcCleanRoundTrip := by
  intro s p i l hp hin hout hmax hlen hnodup hsigns
  have hword : hardBits (clampedInputs p.llrmax l) = i ++ ldpcParity (profLdpc s.rom p) i :=
    (hardBits_clampedInputs hmax l).trans hsigns
  have hholds := checksHold_encoded (c := profLdpc s.rom p) hlen hnodup
  have hdec := ldpcDecode_of_checksHold (maxiter := p.maxiter) (hword ▸ hholds)
  rw [exec_ldpcdec_converged hp hin hout hdec, hword, ← hlen, List.take_left]
  rfl

end Sys2Proof.Machine
end

section
/-! PROOFS of the family 43_interleaver.md: pi and its inverse as a permutation of the indices of a frame (R231 to R233), and what
ILV and DEILV do to a frame (R234, R236, R237). The block interleaver and a platform's table each give an `IlvBijection`; the
facts about the moved sequences need no more than that. -/

namespace Sys2Proof.Machine

open Sys2Proof.Safety

/-! ### The sequences, element by element -/

section
variable {α : Type} {h : Interleaver} {free free' : Nat → α} {x : List α} {n k : Nat}

theorem interleave_getElem?_of_perm (hn : n < x.length) (hk : k < x.length) (hperm : ilvPerm h n = some k) :
    (interleave h free x)[n]? = x[k]? := by
  rw [interleave_getElem? h free x hn, hperm]
  simp [elementAt, hk]

theorem deinterleave_getElem?_of_permInv (hk : k < x.length) (hn : n < x.length)
    (hinv : ilvPermInv h x.length k = some n) : (deinterleave h free x)[k]? = x[n]? := by
  rw [deinterleave_getElem? h free x hk, hinv]
  simp [elementAt, hn]

end

/-! ### Interleavers that permute the indices -/

/-- pi maps the indices below `len` to indices below `len`, and the model's inverse leads back. Since these indices are finitely
many, pi is then a permutation of them (`IlvBijection.exists_equiv`). -/
structure IlvBijection (h : Interleaver) (len : Nat) : Prop where
  maps : ∀ n, n < len → ∃ k, k < len ∧ ilvPerm h n = some k
  leftInverse : ∀ n k, n < len → ilvPerm h n = some k → ilvPermInv h len k = some n

namespace IlvBijection
variable {α : Type} {h : Interleaver} {len : Nat} {free free' : Nat → α} {x : List α}

theorem exists_equiv (hb : IlvBijection h len) :
    ∃ σ : Equiv.Perm (Fin len), ∀ n : Fin len, ilvPerm h n = some (σ n : Nat) := by
  choose k hk hperm using hb.maps
  have hinj : Function.Injective fun n : Fin len => (⟨k n n.isLt, hk n n.isLt⟩ : Fin len) := by
    intro m n hmn
    have hsame : k m m.isLt = k n n.isLt := Fin.mk.inj hmn
    have hm := hb.leftInverse m _ m.isLt (hperm m m.isLt)
    have hn := hb.leftInverse n _ n.isLt (hperm n n.isLt)
    rw [hsame, hn] at hm
    exact Fin.ext (Option.some.inj hm).symm
  exact ⟨Equiv.ofBijective _ (Finite.injective_iff_bijective.1 hinj), fun n => hperm n n.isLt⟩

/-- Every index below `len` is pi(n) for some n below `len`. -/
theorem exists_source (hb : IlvBijection h len) {k : Nat} (hk : k < len) : ∃ n, n < len ∧ ilvPerm h n = some k := by
  obtain ⟨σ, hσ⟩ := hb.exists_equiv
  refine ⟨σ.symm ⟨k, hk⟩, (σ.symm ⟨k, hk⟩).isLt, ?_⟩
  rw [hσ, σ.apply_symm_apply]

/-- Interleaving reorders (R234). -/
theorem interleave_perm (hb : IlvBijection h x.length) : (interleave h free x).Perm x := by
  obtain ⟨σ, hσ⟩ := hb.exists_equiv
  have hreordered : interleave h free x = List.ofFn (x.get ∘ σ) := by
    refine List.ext_getElem? fun n => ?_
    by_cases hn : n < x.length
    · rw [interleave_getElem?_of_perm hn (σ ⟨n, hn⟩).isLt (hσ ⟨n, hn⟩)]
      simp [hn]
    · simp [hn]
  calc interleave h free x = List.ofFn (x.get ∘ σ) := hreordered
    List.Perm _ (List.ofFn x.get) := Equiv.Perm.ofFn_comp_perm σ x.get
    _ = x := List.ofFn_get x

theorem deinterleave_interleave (hb : IlvBijection h x.length) : deinterleave h free (interleave h free' x) = x := by
  refine List.ext_getElem? fun k => ?_
  by_cases hk : k < x.length
  · obtain ⟨n, hn, hperm⟩ := hb.exists_source hk
    have hinv : ilvPermInv h (interleave h free' x).length k = some n := by
      rw [interleave_length]
      exact hb.leftInverse n k hn hperm
    rw [deinterleave_getElem?_of_permInv (by simpa using hk) (by simpa using hn) hinv, interleave_getElem?_of_perm hn hk hperm]
  · simp [hk]

theorem interleave_deinterleave (hb : IlvBijection h x.length) : interleave h free (deinterleave h free' x) = x := by
  refine List.ext_getElem? fun n => ?_
  by_cases hn : n < x.length
  · obtain ⟨k, hk, hperm⟩ := hb.maps n hn
    rw [interleave_getElem?_of_perm (by simpa using hn) (by simpa using hk) hperm,
      deinterleave_getElem?_of_permInv hk hn (hb.leftInverse n k hn hperm)]
  · simp [hn]

/-- De-interleaving reorders: its output, interleaved again, is its input. -/
theorem deinterleave_perm (hb : IlvBijection h x.length) : (deinterleave h free x).Perm x := by
  have hback : (interleave h free (deinterleave h free x)).Perm (deinterleave h free x) :=
    interleave_perm (by rwa [deinterleave_length])
  rw [interleave_deinterleave hb] at hback
  exact hback.symm

end IlvBijection

/-! ### The block interleaver (R231 to R233) -/

section
variable {columns rows : Nat} {reversed : Bool} {j : Nat}

theorem ilvColumn_lt (hj : j < columns) : ilvColumn columns reversed j < columns := by
  unfold ilvColumn
  split <;> omega

theorem ilvColumn_ilvColumn (hj : j < columns) : ilvColumn columns reversed (ilvColumn columns reversed j) = j := by
  unfold ilvColumn
  split <;> omega

/-- The bits are written column by column into R rows and read row by row: the element n = q * C + j of a row-wise reading stands
in row q of the column col(j). -/
theorem block_ilvBijection (hcolumns : 0 < columns) : IlvBijection (.block columns rows reversed) (columns * rows) where
  maps n hn := by
    have hrow : n / columns < rows := Nat.div_lt_of_lt_mul hn
    have hcol : ilvColumn columns reversed (n % columns) < columns := ilvColumn_lt (Nat.mod_lt n hcolumns)
    refine ⟨_, ?_, rfl⟩
    calc ilvColumn columns reversed (n % columns) * rows + n / columns
      _ < (ilvColumn columns reversed (n % columns) + 1) * rows := by rw [Nat.succ_mul]; omega
      _ ≤ columns * rows := Nat.mul_le_mul_right rows hcol
  leftInverse n k hn hperm := by
    have hrow : n / columns < rows := Nat.div_lt_of_lt_mul hn
    have hk : k = n / columns + rows * ilvColumn columns reversed (n % columns) := by
      rw [Nat.add_comm, Nat.mul_comm]
      exact (Option.some.inj hperm).symm
    have hmod : k % rows = n / columns := by rw [hk, Nat.add_mul_mod_self_left, Nat.mod_eq_of_lt hrow]
    have hdiv : k / rows = ilvColumn columns reversed (n % columns) := by
      rw [hk, Nat.add_mul_div_left _ _ (by omega), Nat.div_eq_of_lt hrow, Nat.zero_add]
    rw [ilvPermInv, hmod, hdiv, ilvColumn_ilvColumn (Nat.mod_lt n hcolumns), Nat.div_add_mod']

end

/-- The spec's interleaver permutes the indices of a frame of every profile whose eta divides Nldpc. -/
theorem defaultIlv_ilvBijection {r : ProfileRow} (hdvd : r.nldpc % r.eta = 0) : IlvBijection (defaultIlv r) r.nldpc := by
  unfold defaultIlv
  split
  · simpa using block_ilvBijection (rows := r.nldpc) (reversed := false) Nat.one_pos
  · have h := block_ilvBijection (columns := r.eta) (rows := r.nldpc / r.eta) (reversed := r.order == 8 && r.rate == .r3_5)
      (by omega)
    rwa [Nat.mul_div_cancel' (Nat.dvd_of_mod_eq_zero hdvd)] at h

/-! ### A platform's table (R236, R237) -/

section
variable {perm : List Nat} {len : Nat}

/-- The last index below `len` at which the table names `k`: what the upward loop of R236 leaves there (log entry 23). -/
theorem ilvPermInv_table_of_last {n k : Nat} (hn : n < len) (hperm : perm[n]? = some k)
    (hlast : ∀ n', n < n' → n' < len → perm[n']? ≠ some k) : ilvPermInv (.table perm) len k = some n := by
  induction len with
  | zero => omega
  | succ len ih =>
    rw [ilvPermInv, List.range_succ, List.reverse_concat, List.find?_cons]
    obtain hlt | rfl := Nat.lt_succ_iff_lt_or_eq.1 hn
    · have hskip : (perm[len]? == some k) = false := by simpa using hlast len hlt len.lt_succ_self
      rw [hskip]
      exact ih hlt fun n' hlater hn' => hlast n' hlater (by omega)
    · simp [hperm]

theorem table_ilvBijection (hlen : perm.length = len) (hlt : ∀ k ∈ perm, k < len) (hnodup : perm.Nodup) :
    IlvBijection (.table perm) len where
  maps n hn := by
    have hn' : n < perm.length := by omega
    exact ⟨perm[n], hlt _ (List.getElem_mem hn'), List.getElem?_eq_getElem hn'⟩
  leftInverse n k hn hperm := by
    refine ilvPermInv_table_of_last hn hperm fun n' hlater _ hsame => hlater.ne ?_
    exact (List.getElem?_inj (by omega) hnodup).1 (hperm.trans hsame.symm)

end

/-! ### The interleaver of a profile -/

section
variable {rom : Rom} {r : ProfileRow}

theorem ilvOf_of_some {perm : List Nat} (h : ilvRowOf rom r = some perm) : ilvOf rom r = .table perm := by rw [ilvOf, h]

theorem ilvOf_of_none (h : ilvRowOf rom r = none) : ilvOf rom r = defaultIlv r := by rw [ilvOf, h]

theorem ilvOf_ilvBijection (hdvd : r.nldpc % r.eta = 0) (hok : ilvTableOk rom r = true) :
    IlvBijection (ilvOf rom r) r.nldpc := by
  unfold ilvTableOk at hok
  split at hok
  · next hrow => exact ilvOf_of_none hrow ▸ defaultIlv_ilvBijection hdvd
  · next perm hrow =>
    simp only [Bool.and_eq_true, decide_eq_true_eq, List.all_eq_true] at hok
    obtain ⟨⟨hlen, hlt⟩, hnodup⟩ := hok
    exact ilvOf_of_some hrow ▸ table_ilvBijection hlen hlt hnodup

/-- For QPSK (eta = 2) the identity, above it the columns of R231 and R232. -/
theorem ilvPerm_defaultIlv (heta : 2 ≤ r.eta) (horder : r.order = 2 ^ r.eta) (n : Nat) :
    ilvPerm (defaultIlv r) n = if r.order = 4 then some n else
      some ((if r.order = 8 ∧ r.rate = .r3_5 then r.eta - 1 - n % r.eta else n % r.eta) * (r.nldpc / r.eta) + n / r.eta) := by
  obtain heq | hlt := heta.eq_or_lt
  · have hqpsk : r.order = 4 := by simp [horder, ← heq]
    simp [defaultIlv, ilvPerm, ilvColumn, ← heq, hqpsk, Nat.mod_one]
  · have hqpsk : r.order ≠ 4 := by
      have hpow : 2 ^ 2 < 2 ^ r.eta := Nat.pow_lt_pow_right (by decide) hlt
      omega
    simp [defaultIlv, ilvPerm, ilvColumn, hlt.not_ge, hqpsk]

/-- The model's pi is the source index in the spec's own form. -/
theorem ilvPerm_ilvOf (heta : 2 ≤ r.eta) (horder : r.order = 2 ^ r.eta) (n : Nat) :
    ilvPerm (ilvOf rom r) n = ilvSource rom r n := by
  unfold ilvSource
  split
  · next e he => rw [ilvOf_of_some (perm := e.perm) (by rw [ilvRowOf, he]; rfl), ilvPerm]
  · next he => rw [ilvOf_of_none (by rw [ilvRowOf, he]; rfl), ilvPerm_defaultIlv heta horder]

/-- Among the indices that pi sends to `k`, the last one is the one the inverse names. -/
theorem ilvPermInv_ilvOf_of_last (hdvd : r.nldpc % r.eta = 0) {n k : Nat} (hn : n < r.nldpc)
    (hperm : ilvPerm (ilvOf rom r) n = some k)
    (hlast : ∀ n', n < n' → n' < r.nldpc → ilvPerm (ilvOf rom r) n' ≠ some k) :
    ilvPermInv (ilvOf rom r) r.nldpc k = some n := by
  cases hrow : ilvRowOf rom r with
  | none =>
    rw [ilvOf_of_none hrow] at hperm ⊢
    exact (defaultIlv_ilvBijection hdvd).leftInverse n k hn hperm
  | some perm =>
    rw [ilvOf_of_some hrow] at hperm hlast ⊢
    exact ilvPermInv_table_of_last hn hperm hlast

end

/-! ### ILV and DEILV -/

/-- ILV with its input FULL and its output EMPTY (R234). -/
theorem exec_ilv {s : State} {p : Prof} {x : List Bool} (hp : s.session = .active p) (hin : s.tb2 = some x)
    (hout : s.tb3 = none) :
    exec .ilv s = .next (respond 0x00 0
      { s with tb2 := none, tb3 := some (interleave (ilvOf s.rom p.row) (Config.freeBit x) x) }) := by
  simp only [exec, execIlv, whenActive_active hp, hin, hout, respondOk_eq]

/-- DEILV with its input FULL and its output EMPTY (R236). -/
theorem exec_deilv {s : State} {p : Prof} {y : List Llr} (hp : s.session = .active p) (hin : s.rb3 = some y)
    (hout : s.rb2 = none) :
    exec .deilv s = .next (respond 0x00 0
      { s with rb3 := none, rb2 := some (deinterleave (ilvOf s.rom p.row) (Config.freeLlr y) y) }) := by
  simp only [exec, execDeilv, whenActive_active hp, hin, hout, respondOk_eq]

/-- Settles O34: the model's pi is the spec's source index, and a bijection of the frame's indices where `P_ILV` is one. -/
theorem ilvPermutes : Obligations.IlvPermutes := by
  intro s p x hp hin hout
  refine ⟨interleave (ilvOf s.rom p.row) (Config.freeBit x) x, exec_ilv hp hin hout, interleave_length .., ?_⟩
  intro heta horder hdvd hlen
  have hsource (n : Nat) := ilvPerm_ilvOf (rom := s.rom) heta horder n
  refine ⟨fun n k hn hk hlt => ?moved, fun hok => ?permuted⟩
  case moved => exact interleave_getElem?_of_perm (hlen ▸ hn) (hlen ▸ hlt) ((hsource n).trans hk)
  case permuted =>
    have hb := ilvOf_ilvBijection hdvd hok
    refine ⟨(hlen.symm ▸ hb).interleave_perm, fun n hn => ?_⟩
    rw [← hsource]
    exact hb.maps n hn

/-- Settles O35: the two directions are inverse wherever pi is a bijection, and in any table the last index wins. -/
theorem deilvInverts : Obligations.DeilvInverts := by
  refine ⟨fun s p y hp hin hout => ?command, fun α free free' rom r x hdvd hok hlen => ?inverse, fun _ _ _ _ => rfl⟩
  case command =>
    refine ⟨deinterleave (ilvOf s.rom p.row) (Config.freeLlr y) y, exec_deilv hp hin hout, deinterleave_length .., ?_⟩
    intro heta horder hdvd hlen
    have hsource (n : Nat) := ilvPerm_ilvOf (rom := s.rom) heta horder n
    refine ⟨fun n k hn hk hlt hlast => ?moved, fun hok => (hlen.symm ▸ ilvOf_ilvBijection hdvd hok).deinterleave_perm⟩
    case moved =>
      have hinv := ilvPermInv_ilvOf_of_last hdvd hn ((hsource n).trans hk) fun n' hlater hn' =>
        hsource n' ▸ hlast n' hlater hn'
      exact deinterleave_getElem?_of_permInv (hlen ▸ hlt) (hlen ▸ hn) (hlen ▸ hinv)
  case inverse =>
    have hb : IlvBijection (ilvOf rom r) x.length := hlen.symm ▸ ilvOf_ilvBijection hdvd hok
    exact ⟨hb.deinterleave_interleave, hb.interleave_deinterleave⟩

end Sys2Proof.Machine
end

section
/-! PROOFS of the family 44_mapper.md: the label that MAP reads from a group of bits (R246), DEMAP's hard decision as the first
least distance (R257) and its soft LLR as a difference of least distances (R256), and the round trip without noise (R260), which
rests on one fact about the default tables: their points lie far enough apart for the default weight. -/

namespace Sys2Proof.Machine

open Sys2Proof.Safety

/-! ### The label of a group of bits (R246) -/

theorem natOfBits_testBit_sub {g : List Bool} {i : Nat} (hi : i < g.length) :
    (natOfBits g).testBit (g.length - 1 - i) = g.getD i false := by
  have hback : g.length - 1 - (g.length - 1 - i) = i := by omega
  rw [natOfBits_testBit, List.getD_reverse _ (by omega), hback]

theorem natOfBits_lt (g : List Bool) : natOfBits g < 2 ^ g.length := by
  refine Nat.lt_pow_two_of_testBit _ fun k hk => ?_
  rw [natOfBits_testBit, List.getD_eq_default _ _ (by simpa using hk)]

theorem mapFrame_getD (points : List Sample) (eta : Nat) (b : List Bool) {nsym k : Nat} (hk : k < nsym) :
    (mapFrame points eta nsym b).getD k Sample.zero =
      points.getD (natOfBits ((b.drop (eta * k)).take eta)) Sample.zero := by
  rw [← groupsOf_getD eta b hk, mapFrame]
  simp [hk, mapGroup]

/-- Symbol k of a frame is the point of a label, and the label's bits are those of group k, the first one the most significant. -/
theorem mapFrame_label (points : List Sample) {eta nsym k : Nat} {b : List Bool} (hlen : b.length = nsym * eta) (hk : k < nsym) :
    ∃ l, l < 2 ^ eta ∧ (∀ i, i < eta → l.testBit (eta - 1 - i) = b.getD (k * eta + i) false) ∧
      (mapFrame points eta nsym b).getD k Sample.zero = points.getD l Sample.zero := by
  have hgroup : ((b.drop (eta * k)).take eta).length = eta := by
    have hend : (k + 1) * eta ≤ nsym * eta := Nat.mul_le_mul_right eta hk
    rw [Nat.succ_mul, Nat.mul_comm k] at hend
    rw [List.length_take, List.length_drop]
    omega
  have hlt := natOfBits_lt ((b.drop (eta * k)).take eta)
  rw [hgroup] at hlt
  refine ⟨_, hlt, fun i hi => ?bits, mapFrame_getD points eta b hk⟩
  case bits =>
    have hbit := natOfBits_testBit_sub (hgroup.symm ▸ hi)
    rw [hgroup] at hbit
    rw [hbit, List.getD_eq_getElem?_getD, List.getElem?_take_of_lt hi, List.getElem?_drop, ← List.getD_eq_getElem?_getD,
      Nat.mul_comm]

/-! ### The least distance to a point with a given label bit (R256) -/

theorem leastOf_isLeast {l : List Int} (h : l ≠ []) : IsLeast {d | d ∈ l} (leastOf l) := by
  obtain ⟨x, rest, rfl⟩ := List.exists_cons_of_ne_nil h
  exact List.min?_eq_some_iff.1 List.min?_cons'

/-- The squared distances from `y` to the points whose label has bit `j` equal to `v`. -/
def labelDistances (points : List Sample) (y : Sample) (j : Nat) (v : Bool) : Set Int :=
  {d | ∃ a, a < points.length ∧ a.testBit j = v ∧ d = dist2 y (points.getD a Sample.zero)}

theorem mem_filter_zipIdx_iff {points : List Sample} {y : Sample} {j : Nat} {v : Bool} {d : Int} :
    d ∈ (points.zipIdx.filter (fun e => e.2.testBit j == v)).map (fun e => dist2 y e.1) ↔
      d ∈ labelDistances points y j v := by
  simp only [List.mem_map, List.mem_filter, Prod.exists, List.mem_zipIdx_iff_getElem?, beq_iff_eq]
  constructor
  · rintro ⟨x, a, ⟨hx, hv⟩, rfl⟩
    obtain ⟨ha, -⟩ := List.getElem?_eq_some_iff.1 hx
    exact ⟨a, ha, hv, by rw [List.getD_eq_getElem?_getD, hx]; rfl⟩
  · rintro ⟨a, ha, hv, rfl⟩
    exact ⟨points[a], a, ⟨List.getElem?_eq_getElem ha, hv⟩, by rw [List.getD_eq_getElem _ _ ha]⟩

theorem nearestWith_isLeast {points : List Sample} {y : Sample} {j : Nat} {v : Bool}
    (h : (labelDistances points y j v).Nonempty) : IsLeast (labelDistances points y j v) (nearestWith points y j v) := by
  obtain ⟨d, hd⟩ := h
  have hset : labelDistances points y j v =
      {d | d ∈ (points.zipIdx.filter (fun e => e.2.testBit j == v)).map (fun e => dist2 y e.1)} :=
    Set.ext fun _ => mem_filter_zipIdx_iff.symm
  rw [hset]
  exact leastOf_isLeast (List.ne_nil_of_mem (mem_filter_zipIdx_iff.2 hd))

/-- In a table of 2^eta points each of the eta label bits is 0 somewhere and 1 somewhere. -/
theorem labelDistances_nonempty {points : List Sample} {eta j : Nat} (hlen : points.length = 2 ^ eta) (hj : j < eta)
    (y : Sample) (v : Bool) : (labelDistances points y j v).Nonempty := by
  cases v with
  | false => exact ⟨_, 0, by rw [hlen]; positivity, Nat.zero_testBit j, rfl⟩
  | true => exact ⟨_, 2 ^ j, by rw [hlen]; exact Nat.pow_lt_pow_right one_lt_two hj, Nat.testBit_two_pow_self, rfl⟩

/-! ### The first least distance (R257) -/

theorem getElem?_concat_eq_some_iff (l : List Int) (x : Int) (i : Nat) (y : Int) :
    (l ++ [x])[i]? = some y ↔ l[i]? = some y ∨ (i = l.length ∧ x = y) := by
  rcases lt_trichotomy i l.length with hi | rfl | hi
  · simp [List.getElem?_append_left hi, hi.ne]
  · simp
  · simp [List.getElem?_append_right hi.le, hi.le, hi.ne', Nat.sub_ne_zero_of_lt hi]

/-- `v` stands at index `a` of the list, no element is less, and every element before index `a` is greater. -/
structure IsFirstLeast (l : List Int) (a : Nat) (v : Int) : Prop where
  here : l[a]? = some v
  le : ∀ (i : Nat) x, l[i]? = some x → v ≤ x
  lt : ∀ (i : Nat) x, i < a → l[i]? = some x → v < x

namespace IsFirstLeast
variable {l : List Int} {a : Nat} {v x : Int}

theorem index_lt (h : IsFirstLeast l a v) : a < l.length := (List.getElem?_eq_some_iff.1 h.here).1

theorem singleton (x : Int) : IsFirstLeast [x] 0 x where
  here := rfl
  le i y hy := by
    obtain rfl := List.mem_singleton.1 (List.mem_of_getElem? hy)
    exact le_rfl
  lt i y hi := absurd hi (Nat.not_lt_zero i)

/-- An element that is not less than the least one so far leaves it the first least. -/
theorem concat_of_le (h : IsFirstLeast l a v) (hx : v ≤ x) : IsFirstLeast (l ++ [x]) a v where
  here := (getElem?_concat_eq_some_iff ..).2 (.inl h.here)
  le i y hy := by
    obtain hy | ⟨-, rfl⟩ := (getElem?_concat_eq_some_iff ..).1 hy
    · exact h.le i y hy
    · exact hx
  lt i y hi hy := by
    obtain hy | ⟨rfl, -⟩ := (getElem?_concat_eq_some_iff ..).1 hy
    · exact h.lt i y hi hy
    · exact absurd h.index_lt hi.not_gt

/-- A smaller element becomes the first least one. -/
theorem concat_of_lt (h : IsFirstLeast l a v) (hx : x < v) : IsFirstLeast (l ++ [x]) l.length x where
  here := (getElem?_concat_eq_some_iff ..).2 (.inr ⟨rfl, rfl⟩)
  le i y hy := by
    obtain hy | ⟨-, rfl⟩ := (getElem?_concat_eq_some_iff ..).1 hy
    · exact hx.le.trans (h.le i y hy)
    · exact le_rfl
  lt i y hi hy := by
    obtain hy | ⟨rfl, -⟩ := (getElem?_concat_eq_some_iff ..).1 hy
    · exact hx.trans_le (h.le i y hy)
    · exact absurd hi (lt_irrefl _)

end IsFirstLeast

/-- The search finds the first least element of the list, given that of the part it has seen. -/
theorem firstLeast_isFirstLeast (rest : List Int) {seen : List Int} {best : Nat} {least : Int}
    (h : IsFirstLeast seen best least) : ∃ v, IsFirstLeast (seen ++ rest) (firstLeast rest seen.length best least) v := by
  induction rest generalizing seen best least with
  | nil => exact ⟨least, by rwa [List.append_nil]⟩
  | cons x rest ih =>
    have hseen : seen.length + 1 = (seen ++ [x]).length := by simp
    rw [List.append_cons, firstLeast, hseen]
    split
    · next hx => exact ih (h.concat_of_lt hx)
    · next hx => exact ih (h.concat_of_le (not_lt.1 hx))

theorem hardLabel_isFirstLeast {points : List Sample} (h : points ≠ []) (y : Sample) :
    ∃ v, IsFirstLeast (points.map (dist2 y)) (hardLabel points y) v := by
  obtain ⟨x, rest, rfl⟩ := List.exists_cons_of_ne_nil h
  exact firstLeast_isFirstLeast (rest.map (dist2 y)) (IsFirstLeast.singleton (dist2 y x))

/-- The decided label is the smallest of those whose point is nearest (R257). -/
theorem hardLabel_nearest {points : List Sample} (h : points ≠ []) (y : Sample) :
    hardLabel points y < points.length ∧
      (∀ a, a < points.length →
        dist2 y (points.getD (hardLabel points y) Sample.zero) ≤ dist2 y (points.getD a Sample.zero)) ∧
      ∀ a, a < hardLabel points y →
        dist2 y (points.getD (hardLabel points y) Sample.zero) < dist2 y (points.getD a Sample.zero) := by
  obtain ⟨v, hfirst⟩ := hardLabel_isFirstLeast h y
  have hlt : hardLabel points y < points.length := by simpa using hfirst.index_lt
  have hdist (a : Nat) (ha : a < points.length) :
      (points.map (dist2 y))[a]? = some (dist2 y (points.getD a Sample.zero)) := by simp [ha]
  obtain rfl : v = _ := Option.some.inj (hfirst.here.symm.trans (hdist _ hlt))
  exact ⟨hlt, fun a ha => hfirst.le a _ (hdist a ha), fun a ha => hfirst.lt a _ ha (hdist a (ha.trans hlt))⟩

/-! ### The LLRs of a frame (R255, R258) -/

/-- The LLR of label bit `j` as an integer, in the mode of the profile. -/
def symbolLlr (points : List Sample) (p : Prof) (y : Sample) (j : Nat) : Int :=
  if p.hard then hardLlr points p.llrmax y j else softLlr points p.llrscale p.llrshift p.llrmax y j

section
variable {points : List Sample} {p : Prof} {y : Sample} {j : Nat}

theorem symbolLlr_of_hard (h : p.hard = true) : symbolLlr points p y j = hardLlr points p.llrmax y j := if_pos h

theorem symbolLlr_of_soft (h : p.hard = false) :
    symbolLlr points p y j = softLlr points p.llrscale p.llrshift p.llrmax y j := by simp [symbolLlr, h]

theorem symbolLlr_bounds (points : List Sample) (p : Prof) (y : Sample) (j : Nat) :
    -(p.llrmax : Int) ≤ symbolLlr points p y j ∧ symbolLlr points p y j ≤ p.llrmax := by
  cases h : p.hard with
  | true =>
    rw [symbolLlr_of_hard h, hardLlr]
    split <;> omega
  | false =>
    simp only [symbolLlr_of_soft h, softLlr, clampTo]
    omega

theorem demapSymbol_getD {i : Nat} (hi : i < p.row.eta) :
    (demapSymbol points p y).getD i 0 = BitVec.ofInt 8 (symbolLlr points p y (p.row.eta - 1 - i)) := by
  simp [demapSymbol, symbolLlr, hi]

end

theorem demapFrame_getD (points : List Sample) (p : Prof) {y : List Sample} {k i : Nat} (hk : k < y.length)
    (hi : i < p.row.eta) :
    (demapFrame points p y).getD (k * p.row.eta + i) 0 =
      BitVec.ofInt 8 (symbolLlr points p (y.getD k Sample.zero) (p.row.eta - 1 - i)) := by
  induction y generalizing k with
  | nil => exact absurd hk (Nat.not_lt_zero k)
  | cons x y ih =>
    rw [demapFrame, List.flatMap_cons, ← demapFrame]
    cases k with
    | zero =>
      rw [Nat.zero_mul, Nat.zero_add, List.getD_append _ _ _ _ (by simpa using hi), demapSymbol_getD hi, List.getD_cons_zero]
    | succ k =>
      have hskip : (k + 1) * p.row.eta + i - p.row.eta = k * p.row.eta + i := by rw [Nat.succ_mul]; omega
      rw [List.getD_append_right _ _ _ _ (by rw [demapSymbol_length, Nat.succ_mul]; omega), demapSymbol_length, hskip,
        ih (Nat.lt_of_succ_lt_succ hk), List.getD_cons_succ]

/-- Every LLR fits the eight bits of its word. -/
theorem demapFrame_toInt (points : List Sample) {p : Prof} {y : List Sample} {k i : Nat} (hmax : p.llrmax ≤ 127)
    (hk : k < y.length) (hi : i < p.row.eta) :
    ((demapFrame points p y).getD (k * p.row.eta + i) 0).toInt =
      symbolLlr points p (y.getD k Sample.zero) (p.row.eta - 1 - i) := by
  obtain ⟨hlow, hhigh⟩ := symbolLlr_bounds points p (y.getD k Sample.zero) (p.row.eta - 1 - i)
  rw [demapFrame_getD points p hk hi, BitVec.toInt_ofInt]
  exact Int.bmod_eq_of_le (by omega) (by omega)

/-! ### MAP and DEMAP -/

/-- MAP with its input FULL and its output EMPTY (R253). -/
theorem exec_map {s : State} {p : Prof} {b : List Bool} (hp : s.session = .active p) (hin : s.tb3 = some b)
    (hout : s.tb4 = none) :
    exec .map s = .next (respond 0x00 (BitVec.ofNat 32 p.nsym)
      { s with tb3 := none, tb4 := some (mapFrame (pointsOf s.rom p.row.order p.row.rate) p.row.eta p.nsym b) }) := by
  simp only [exec, execMap, whenActive_active hp, hin, hout, respondOk_eq]

/-- DEMAP with its input FULL and its output EMPTY (R258). -/
theorem exec_demap {s : State} {p : Prof} {y : List Sample} (hp : s.session = .active p) (hin : s.rb4 = some y)
    (hout : s.rb3 = none) :
    exec .demap s = .next (respond 0x00 0
      { s with rb4 := none, rb3 := some (demapFrame (pointsOf s.rom p.row.order p.row.rate) p y) }) := by
  simp only [exec, execDemap, whenActive_active hp, hin, hout, respondOk_eq]

/-- Settles O36: the label of each group of bits, read the first bit first. -/
theorem mapSelectsPoints : Obligations.MapSelectsPoints := by
  intro s p b hp hin hout
  exact ⟨_, exec_map hp hin hout, mapFrame_length .., fun hlen k hk => mapFrame_label _ hlen hk⟩

/-- Settles O37: the decided label is the first least of the distances. -/
theorem demapHardDecides : Obligations.DemapHardDecides := by
  intro s p y hp hin hout hhard
  refine ⟨_, exec_demap hp hin hout, demapFrame_length .., fun hmax hpoints k hk => ?_⟩
  obtain ⟨hlt, hle, hfirst⟩ := hardLabel_nearest hpoints (y.getD k Sample.zero)
  refine ⟨_, hlt, hle, hfirst, fun i hi => ?llr⟩
  case llr => rw [demapFrame_toInt _ hmax hk hi, symbolLlr_of_hard hhard, hardLlr]

/-- The soft LLR in the form of R256: the magnitude is weighted and rounded down on either side of 0, then clamped. -/
theorem softLlr_eq (points : List Sample) (llrscale llrshift llrmax : Nat) (y : Sample) (j : Nat) :
    softLlr points llrscale llrshift llrmax y j =
      max (-(llrmax : Int)) (min (llrmax : Int)
        (if nearestWith points y j true < nearestWith points y j false
         then -(((nearestWith points y j false - nearestWith points y j true).toNat * llrscale / 2 ^ llrshift : Nat) : Int)
         else (((nearestWith points y j true - nearestWith points y j false).toNat * llrscale / 2 ^ llrshift : Nat) : Int))) := by
  simp only [softLlr, clampTo, Nat.shiftRight_eq_div_pow, sub_neg]
  split
  · next h =>
    have habs : (nearestWith points y j true - nearestWith points y j false).natAbs =
        (nearestWith points y j false - nearestWith points y j true).toNat := by omega
    rw [habs]
  · next h =>
    have habs : (nearestWith points y j true - nearestWith points y j false).natAbs =
        (nearestWith points y j true - nearestWith points y j false).toNat := by omega
    rw [habs]

/-- Settles O38: the two least distances are those that DEMAP subtracts. -/
theorem demapSoftWeighs : Obligations.DemapSoftWeighs := by
  intro s p y hp hin hout hsoft
  refine ⟨_, exec_demap hp hin hout, demapFrame_length .., fun hmax hpoints k i hk hi => ?_⟩
  have hj : p.row.eta - 1 - i < p.row.eta := by omega
  refine ⟨nearestWith (pointsOf s.rom p.row.order p.row.rate) (y.getD k Sample.zero) (p.row.eta - 1 - i), fun v => ?least, ?llr⟩
  case least =>
    rw [← hpoints]
    obtain ⟨hmem, hleast⟩ := nearestWith_isLeast (labelDistances_nonempty hpoints hj (y.getD k Sample.zero) v)
    exact ⟨hmem, fun a ha hv => hleast ⟨a, ha, hv, rfl⟩⟩
  case llr => rw [demapFrame_toInt _ hmax hk hi, symbolLlr_of_soft hsoft, softLlr_eq]

/-! ### Without noise (R260) -/

theorem dist2_self (x : Sample) : dist2 x x = 0 := by simp [dist2]

theorem dist2_comm (x y : Sample) : dist2 x y = dist2 y x := by simp only [dist2]; ring

theorem dist2_nonneg (x y : Sample) : 0 ≤ dist2 x y := add_nonneg (mul_self_nonneg _) (mul_self_nonneg _)

/-- Two points of the table lie apart by a squared distance of at least 2^20, which is 2^24 / 16: the least difference that the
default weight does not round to 0. -/
def FarApart (points : List Sample) : Prop := points.Pairwise fun x y => 2 ^ 20 ≤ dist2 x y

/-- A component of a sample, moved from [-2^15, 2^15) to the natural numbers. -/
def offsetComponent (w : BitVec 16) : Nat := (w + 32768#16).toNat

theorem offsetComponent_eq (w : BitVec 16) : (offsetComponent w : Int) = w.toInt + 32768 := by
  have hlt := w.isLt
  have hoffset : (32768#16).toNat = 32768 := rfl
  rw [offsetComponent, BitVec.toNat_add, hoffset, BitVec.toInt_eq_toNat_cond]
  split <;> omega

/-- The distance of two components. -/
def componentGap (v w : BitVec 16) : Nat :=
  (offsetComponent v - offsetComponent w) + (offsetComponent w - offsetComponent v)

theorem componentGap_eq (v w : BitVec 16) : componentGap v w = (v.toInt - w.toInt).natAbs := by
  have hv := offsetComponent_eq v
  have hw := offsetComponent_eq w
  rw [componentGap]
  omega

theorem sq_le_mul_self_of_componentGap {v w : BitVec 16} (h : 2 ^ 10 ≤ componentGap v w) :
    2 ^ 20 ≤ (v.toInt - w.toInt) * (v.toInt - w.toInt) := by
  rw [componentGap_eq] at h
  rw [← Int.natAbs_mul_self]
  exact_mod_cast Nat.mul_le_mul h h

/-- Every two points of the list differ by at least 2^10 in one of the components. This implies `FarApart`, and it is computed on
natural numbers without a product, so that the kernel evaluates it in little memory. -/
def pairwiseApart : List Sample → Bool
  | [] => true
  | x :: rest =>
    rest.all (fun y => Nat.ble 1024 (componentGap x.re y.re) || Nat.ble 1024 (componentGap x.im y.im)) && pairwiseApart rest

theorem farApart_of_pairwiseApart {points : List Sample} (h : pairwiseApart points = true) : FarApart points := by
  induction points with
  | nil => exact List.Pairwise.nil
  | cons x rest ih =>
    simp only [pairwiseApart, Bool.and_eq_true, List.all_eq_true, Bool.or_eq_true, Nat.ble_eq] at h
    obtain ⟨hx, hrest⟩ := h
    refine List.pairwise_cons.2 ⟨fun y hy => ?_, ih hrest⟩
    obtain hre | him := hx y hy
    · exact (sq_le_mul_self_of_componentGap hre).trans (le_add_of_nonneg_right (mul_self_nonneg _))
    · exact (sq_le_mul_self_of_componentGap him).trans (le_add_of_nonneg_left (mul_self_nonneg _))

theorem standardConstellations_farApart {c : Constellation} (hc : c ∈ standardConstellations) :
    c.points.length = c.order ∧ FarApart c.points := by
  have hall : standardConstellations.all (fun c => c.points.length == c.order && pairwiseApart c.points) = true := by
    decide +kernel
  obtain ⟨hlength, hapart⟩ := Bool.and_eq_true_iff.1 (List.all_eq_true.1 hall c hc)
  exact ⟨beq_iff_eq.1 hlength, farApart_of_pairwiseApart hapart⟩

section
variable {points : List Sample} {a l eta j : Nat}

theorem FarApart.le_dist2 (h : FarApart points) (ha : a < points.length) (hl : l < points.length) (hne : a ≠ l) :
    2 ^ 20 ≤ dist2 (points.getD l Sample.zero) (points.getD a Sample.zero) := by
  rw [List.getD_eq_getElem _ _ ha, List.getD_eq_getElem _ _ hl]
  obtain hlt | hlt := hne.lt_or_gt
  · rw [dist2_comm]
    exact List.pairwise_iff_getElem.1 h a l ha hl hlt
  · exact List.pairwise_iff_getElem.1 h l a hl ha hlt

/-- A point of the table decides for its own label. -/
theorem hardLabel_of_farApart (h : FarApart points) (hl : l < points.length) :
    hardLabel points (points.getD l Sample.zero) = l := by
  obtain ⟨hlt, hle, -⟩ := hardLabel_nearest (List.ne_nil_of_length_pos (Nat.zero_lt_of_lt hl)) (points.getD l Sample.zero)
  by_contra hne
  have hfar := h.le_dist2 hlt hl hne
  have hself := hle l hl
  rw [dist2_self] at hself
  omega

/-- At a point of the table the nearest point with the label's own bit is the point itself. -/
theorem nearestWith_own (hl : l < points.length) :
    nearestWith points (points.getD l Sample.zero) j (l.testBit j) = 0 := by
  have hown : (0 : Int) ∈ labelDistances points (points.getD l Sample.zero) j (l.testBit j) :=
    ⟨l, hl, rfl, (dist2_self _).symm⟩
  obtain ⟨⟨a, -, -, ha⟩, hleast⟩ := nearestWith_isLeast ⟨0, hown⟩
  exact le_antisymm (hleast hown) (ha ▸ dist2_nonneg _ _)

/-- At a point of the table the points with the other bit are far away. -/
theorem le_nearestWith_other (h : FarApart points) (hlen : points.length = 2 ^ eta) (hl : l < points.length) (hj : j < eta)
    {v : Bool} (hv : l.testBit j ≠ v) : 2 ^ 20 ≤ nearestWith points (points.getD l Sample.zero) j v := by
  obtain ⟨⟨a, ha, hbit, hdist⟩, -⟩ := nearestWith_isLeast (labelDistances_nonempty hlen hj (points.getD l Sample.zero) v)
  rw [hdist]
  refine h.le_dist2 ha hl fun hsame => hv ?_
  rw [← hbit, hsame]

theorem hardLlr_neg_iff {llrmax : Nat} (hmax : 1 ≤ llrmax) (y : Sample) :
    hardLlr points llrmax y j < 0 ↔ (hardLabel points y).testBit j = true := by
  rw [hardLlr]
  split
  · next hbit => simp [hbit]; omega
  · next hbit => simp [hbit]

/-- With the default weight the soft LLR of a point of the table has the sign of the label's bit. -/
theorem softLlr_neg_iff (h : FarApart points) (hlen : points.length = 2 ^ eta) (hl : l < points.length) (hj : j < eta)
    {llrmax : Nat} (hmax : 1 ≤ llrmax) :
    softLlr points 16 24 llrmax (points.getD l Sample.zero) j < 0 ↔ l.testBit j = true := by
  have hown := nearestWith_own (j := j) hl
  rw [softLlr_eq]
  cases hbit : l.testBit j with
  | true =>
    have hother := le_nearestWith_other h hlen hl hj (v := false) (by simp [hbit])
    rw [hbit] at hown
    rw [hown, if_pos (by omega), iff_true_right rfl]
    omega
  | false =>
    have hother := le_nearestWith_other h hlen hl hj (v := true) (by simp [hbit])
    rw [hbit] at hown
    rw [hown, if_neg (by omega), iff_false_right Bool.false_ne_true]
    omega

/-- The sign of each LLR of a point of the table is the label's bit, in both modes. -/
theorem symbolLlr_neg_iff {p : Prof} (h : FarApart points) (hlen : points.length = 2 ^ eta) (hl : l < points.length)
    (hj : j < eta) (hmax : 1 ≤ p.llrmax) (hweight : p.hard = true ∨ (p.llrscale = 16 ∧ p.llrshift = 24)) :
    symbolLlr points p (points.getD l Sample.zero) j < 0 ↔ l.testBit j = true := by
  cases hmode : p.hard with
  | true => rw [symbolLlr_of_hard hmode, hardLlr_neg_iff hmax, hardLabel_of_farApart h hl]
  | false =>
    obtain ⟨hscale, hshift⟩ := hweight.resolve_left (by simp [hmode])
    rw [symbolLlr_of_soft hmode, hscale, hshift]
    exact softLlr_neg_iff h hlen hl hj hmax

/-- Each LLR of a mapped frame has the sign of its bit. -/
theorem demapFrame_mapFrame_neg_iff {p : Prof} {nsym k i : Nat} {b : List Bool} (h : FarApart points)
    (hpoints : points.length = 2 ^ p.row.eta) (hmin : 1 ≤ p.llrmax) (hmax : p.llrmax ≤ 127)
    (hweight : p.hard = true ∨ (p.llrscale = 16 ∧ p.llrshift = 24)) (hlen : b.length = nsym * p.row.eta) (hk : k < nsym)
    (hi : i < p.row.eta) :
    ((demapFrame points p (mapFrame points p.row.eta nsym b)).getD (k * p.row.eta + i) 0).toInt < 0 ↔
      b.getD (k * p.row.eta + i) false = true := by
  obtain ⟨l, hl, hbits, hpoint⟩ := mapFrame_label points hlen hk
  rw [demapFrame_toInt points hmax (by simpa using hk) hi, hpoint,
    symbolLlr_neg_iff h hpoints (hpoints.symm ▸ hl) (by omega) hmin hweight, hbits i hi]

end

/-- Settles O39: each group's symbol is a point of its table, and its LLRs have the signs of the point's label. -/
theorem mapDemapRoundTrip : Obligations.MapDemapRoundTrip := by
  intro c p nsym b hc horder hmin hmax hweight hlen
  obtain ⟨hpoints, hfar⟩ := standardConstellations_farApart hc
  refine List.ext_getElem (by simp [hlen]) fun n hn hnb => ?_
  have hn' : n < nsym * p.row.eta := hlen ▸ hnb
  have heta : 0 < p.row.eta := Nat.pos_of_mul_pos_left (Nat.zero_lt_of_lt hn')
  have hsign := demapFrame_mapFrame_neg_iff hfar (hpoints.trans horder) hmin hmax hweight hlen
    (Nat.div_lt_of_lt_mul (Nat.mul_comm _ _ ▸ hn')) (Nat.mod_lt n heta)
  rw [Nat.div_add_mod', List.getD_eq_getElem _ _ (by simpa using hn), List.getD_eq_getElem _ _ hnb] at hsign
  rw [List.getElem_map, Bool.eq_iff_iff, decide_eq_true_iff, hsign]

end Sys2Proof.Machine
end

section
/-! PROOFS of the family 45_plframer.md: the bits and symbols of the header (R272 to R277), and PLFRM's frame, whose every symbol
is the one that `kind` names (R282, R283). The frame's places are described once, from both sides: what PLFRM puts at a place of a
slot or of a pilot block, and which of these places an index is. -/

namespace Sys2Proof.Machine

open Sys2Proof.Safety

/-! ### The header's bits (R272, R273, R275) -/

theorem bitsOfNat_getD (v : Nat) {n k : Nat} (hk : k < n) : (bitsOfNat n v).getD k false = v.testBit (n - 1 - k) := by
  simp [bitsOfNat, hk]

theorem testBit_toNat_ite (b : Bool) (g : BitVec 32) (j : Nat) :
    (if b then g else 0#32).toNat.testBit j = (b && g.toNat.testBit j) := by
  cases b <;> simp

/-- Each bit of w is the exclusive-or of that bit of the selected rows (R275). -/
theorem plsWord_testBit (modcod : Nat) (short : Bool) (n : Nat) :
    (plsWord modcod short).toNat.testBit (31 - n / 2) = signallingBit modcod short false n := by
  simp [plsWord, plsSelect, plsRows, bitsOfNat, List.range_succ, signallingBit, testBit_toNat_ite, BitVec.toNat_xor,
    Nat.testBit_xor, -Nat.testBit_zero]

theorem signallingBit_pilots (modcod : Nat) (short pilots : Bool) (n : Nat) :
    signallingBit modcod short pilots n = Bool.xor (signallingBit modcod short false n) (n % 2 == 1 && pilots) := by
  simp [signallingBit]

/-- Each bit of a word followed by itself or its complement: the bits at 2m and 2m + 1 come from bit m. -/
theorem flatMap_bit_pair_getD (l : List Bool) (pilots : Bool) (n : Nat) (hn : n < 2 * l.length) :
    (l.flatMap (fun b => [b, b != pilots])).getD n false = Bool.xor (l.getD (n / 2) false) (n % 2 == 1 && pilots) := by
  induction l generalizing n with
  | nil => simp at hn
  | cons b l ih =>
    rw [List.length_cons] at hn
    match n with
    | 0 => simp
    | 1 => simp
    | n + 2 =>
      have hhalf : (n + 2) / 2 = n / 2 + 1 := by omega
      rw [hhalf, List.getD_cons_succ, Nat.add_mod_right, ← ih n (by omega)]
      rfl

theorem flatMap_bit_pair_length (l : List Bool) (pilots : Bool) :
    (l.flatMap (fun b => [b, b != pilots])).length = 2 * l.length := by
  simp [List.length_flatMap, Nat.mul_comm]

@[simp] theorem plsCode_length (modcod : Nat) (short pilots : Bool) : (plsCode modcod short pilots).length = 64 := by
  rw [plsCode, flatMap_bit_pair_length, bitsOfNat_length]

theorem plsCode_getD (modcod : Nat) (short pilots : Bool) {c : Nat} (hc : c < 64) :
    (plsCode modcod short pilots).getD c false = signallingBit modcod short pilots c := by
  rw [plsCode, flatMap_bit_pair_getD _ _ _ (by rw [bitsOfNat_length]; omega), bitsOfNat_getD _ (by omega), plsWord_testBit,
    ← signallingBit_pilots]

theorem zipWith_xor_getD {a b : List Bool} {k : Nat} (ha : k < a.length) (hb : k < b.length) :
    (List.zipWith Bool.xor a b).getD k false = Bool.xor (a.getD k false) (b.getD k false) := by
  simp [ha, hb]

/-- The 64 bits after SOF are those of the signalling code, scrambled with `P_PLS_SCR` (R275). -/
theorem plsScrambled_getD (rom : Rom) (modcod : Nat) (short pilots : Bool) {c : Nat} (hc : c < 64) :
    (List.zipWith Bool.xor (plsCode modcod short pilots) (bitsOfNat 64 rom.plsScr.toNat)).getD c false =
      Bool.xor (signallingBit modcod short pilots c) (rom.plsScr.getLsbD (63 - c)) := by
  rw [zipWith_xor_getD (by simpa using hc) (by simpa using hc), plsCode_getD _ _ _ hc, bitsOfNat_getD _ hc]
  rfl

@[simp] theorem headerBits_length (rom : Rom) (modcod : Nat) (short pilots : Bool) :
    (headerBits rom modcod short pilots).length = rom.hdrLen := by
  simp [headerBits]
  omega

theorem headerBits_getD {rom : Rom} (p : Prof) {n : Nat} (hroom : 64 ≤ rom.hdrLen) (hn : n < rom.hdrLen) :
    (headerBits rom p.row.modcod p.row.short p.pilots).getD n false = headerBit rom p n := by
  rw [headerBits, List.take_of_length_le (by simp; omega), headerBit]
  split
  · next hsof => rw [List.getD_append _ _ _ _ (by simpa using hsof), bitsOfNat_getD _ hsof]
  · next hsof =>
    have hc : n - (rom.hdrLen - 64) < 64 := by omega
    rw [List.getD_append_right _ _ _ _ (by simpa using hsof), bitsOfNat_length]
    exact plsScrambled_getD rom _ _ _ hc

/-! ### The header's symbols (R276, R277) -/

theorem headerSymbol_im (i : Nat) (y : Bool) : (headerSymbol i y).im.toInt = if y then -2896 else 2896 := by
  rw [headerSymbol]
  cases y <;> split <;> rfl

theorem headerSymbol_re (i : Nat) (y : Bool) :
    (headerSymbol i y).re.toInt = if y = (i % 2 == 0) then -2896 else 2896 := by
  obtain heven | hodd := Nat.mod_two_eq_zero_or_one i
  · rw [headerSymbol, if_pos heven, heven]
    cases y <;> rfl
  · rw [headerSymbol, if_neg (by omega), hodd]
    cases y <;> rfl

theorem profHeader_getD (rom : Rom) (p : Prof) {n : Nat} (hn : n < rom.hdrLen) :
    (profHeader rom p).getD n Sample.zero =
      headerSymbol n ((headerBits rom p.row.modcod p.row.short p.pilots).getD n false) := by
  simp [profHeader, plHeader, hn]

/-! ### The places of a frame (R271, R274, R282) -/

/-- Where slot `i`, from 0, starts after the header: the slots before it, and a pilot block for each whole period of slots. -/
def slotStart (rom : Rom) (pilots : Bool) (i : Nat) : Nat :=
  i * rom.slotLen + (if pilots then i / rom.pilotPeriod else 0) * rom.pilotLen

/-- Where data symbol `n`, from 0, stands after the header: the symbols before it, and a pilot block for each whole period. -/
def dataPlace (rom : Rom) (pilots : Bool) (n : Nat) : Nat :=
  n + (if pilots then n / (rom.pilotPeriod * rom.slotLen) else 0) * rom.pilotLen

/-- Where pilot block `b`, from 0, starts after the header: `b` + 1 periods of slots and the blocks before it. -/
def blockStart (rom : Rom) (b : Nat) : Nat := (b + 1) * (rom.pilotPeriod * rom.slotLen) + b * rom.pilotLen

/-- What follows slot `i`, from 0, of a frame of `total` slots: a pilot block or nothing (R282). -/
def afterSlot (rom : Rom) (pilots : Bool) (total i : Nat) : List Sample :=
  if pilots && (i + 1) % rom.pilotPeriod == 0 && decide (i + 1 < total) then pilotBlock rom else []

theorem dataPlace_eq_slotStart (rom : Rom) (pilots : Bool) (n : Nat) :
    dataPlace rom pilots n = slotStart rom pilots (n / rom.slotLen) + n % rom.slotLen := by
  rw [slotStart, Nat.div_div_eq_div_mul, Nat.mul_comm rom.slotLen, Nat.add_right_comm, Nat.div_add_mod', dataPlace]

theorem slotsWithPilots_cons (rom : Rom) (pilots : Bool) (total s : Nat) (slot : List Sample) (rest : List (List Sample)) :
    slotsWithPilots rom pilots total s (slot :: rest) =
      slot ++ afterSlot rom pilots total s ++ slotsWithPilots rom pilots total (s + 1) rest := rfl

theorem slotsWithPilots_append (rom : Rom) (pilots : Bool) (total s : Nat) (l r : List (List Sample)) :
    slotsWithPilots rom pilots total s (l ++ r) =
      slotsWithPilots rom pilots total s l ++ slotsWithPilots rom pilots total (s + l.length) r := by
  induction l generalizing s with
  | nil => rfl
  | cons slot l ih =>
    rw [List.cons_append, slotsWithPilots_cons, ih, slotsWithPilots_cons, List.append_assoc, List.append_assoc,
      List.append_assoc, List.length_cons, Nat.add_right_comm, Nat.add_assoc s]

theorem slotStart_succ (rom : Rom) (pilots : Bool) {total i : Nat} (h : i + 1 < total) :
    slotStart rom pilots (i + 1) = slotStart rom pilots i + rom.slotLen + (afterSlot rom pilots total i).length := by
  cases pilots with
  | false => simp [slotStart, afterSlot, Nat.succ_mul]
  | true =>
    simp only [slotStart, afterSlot, if_true, Bool.true_and, h, decide_true, Bool.and_true, beq_iff_eq, Nat.succ_div,
      Nat.dvd_iff_mod_eq_zero, Nat.succ_mul, Nat.add_mul]
    split
    · simp only [pilotBlock, List.length_replicate, Nat.one_mul]; omega
    · simp only [List.length_nil, Nat.zero_mul]; omega

/-- The slots before slot `i` and their pilot blocks fill the frame up to its start. -/
theorem slotsWithPilots_length_eq_slotStart (rom : Rom) (pilots : Bool) {total : Nat} {slots : List (List Sample)}
    (hslot : ∀ x ∈ slots, x.length = rom.slotLen) (h : slots.length < total) :
    (slotsWithPilots rom pilots total 0 slots).length = slotStart rom pilots slots.length := by
  induction slots using List.reverseRecOn with
  | nil => simp [slotsWithPilots, slotStart]
  | append_singleton slots slot ih =>
    simp only [List.mem_append, List.mem_singleton] at hslot
    rw [List.length_append, List.length_singleton] at h
    rw [slotsWithPilots_append, List.length_append, ih (fun x hx => hslot x (.inl hx)) (by omega), slotsWithPilots_cons,
      List.length_append, List.length_append, List.length_append, List.length_singleton, slotStart_succ rom pilots h,
      hslot slot (.inr rfl), Nat.zero_add, slotsWithPilots, List.length_nil, Nat.add_zero, Nat.add_assoc]

theorem length_of_mem_groupsOf {α : Type} {k n : Nat} {l x : List α} (h : l.length = n * k) (hx : x ∈ groupsOf k n l) :
    x.length = k := by
  induction n generalizing l with
  | zero => simp [groupsOf] at hx
  | succ n ih =>
    rw [Nat.succ_mul] at h
    obtain rfl | hx := List.mem_cons.1 hx
    · rw [List.length_take]; omega
    · exact ih (by rw [List.length_drop]; omega) hx

section
variable {rom : Rom} {p : Prof} {d : List Sample} {i j k : Nat}

/-- The frame cut at slot `i`: what stands before it, its symbols of `d`, the pilot block after it, and the rest. -/
theorem plFrame_split (hd : d.length = slotsOf rom p.row * rom.slotLen) (hi : i < slotsOf rom p.row) :
    ∃ before rest, plFrame rom p d =
        before ++ ((d.drop (rom.slotLen * i)).take rom.slotLen ++ (afterSlot rom p.pilots (slotsOf rom p.row) i ++ rest)) ∧
      before.length = rom.hdrLen + slotStart rom p.pilots i := by
  have hlen : i < (groupsOf rom.slotLen (slotsOf rom p.row) d).length := by simpa using hi
  have hsplit := List.take_append_drop i (groupsOf rom.slotLen (slotsOf rom p.row) d)
  rw [List.drop_eq_getElem_cons hlen, ← List.getD_eq_getElem _ [] hlen, groupsOf_getD _ d hi] at hsplit
  have hbefore := slotsWithPilots_length_eq_slotStart rom p.pilots (total := slotsOf rom p.row)
    (slots := (groupsOf rom.slotLen (slotsOf rom p.row) d).take i)
    (fun x hx => length_of_mem_groupsOf hd (List.mem_of_mem_take hx)) (by rw [List.length_take]; omega)
  rw [List.length_take_of_le hlen.le] at hbefore
  rw [plFrame, ← hsplit, slotsWithPilots_append, slotsWithPilots_cons, List.append_assoc, ← List.append_assoc,
    List.length_take_of_le hlen.le, Nat.zero_add]
  refine ⟨_, _, rfl, ?_⟩
  rw [List.length_append, profHeader_length, hbefore]

theorem plFrame_header (hk : k < rom.hdrLen) :
    (plFrame rom p d).getD k Sample.zero = (profHeader rom p).getD k Sample.zero :=
  List.getD_append _ _ _ _ (by simpa using hk)

/-- The symbols of slot `i` are data symbols, and what follows the slot stands after them. -/
theorem plFrame_slot (hd : d.length = slotsOf rom p.row * rom.slotLen) (hi : i < slotsOf rom p.row) :
    (∀ j, j < rom.slotLen → (plFrame rom p d).getD (rom.hdrLen + slotStart rom p.pilots i + j) Sample.zero =
      d.getD (i * rom.slotLen + j) Sample.zero) ∧
    ∀ j, j < (afterSlot rom p.pilots (slotsOf rom p.row) i).length →
      (plFrame rom p d).getD (rom.hdrLen + slotStart rom p.pilots i + rom.slotLen + j) Sample.zero =
        (afterSlot rom p.pilots (slotsOf rom p.row) i).getD j Sample.zero := by
  obtain ⟨before, rest, hframe, hbefore⟩ := plFrame_split hd hi
  have hend : (i + 1) * rom.slotLen ≤ d.length := hd ▸ Nat.mul_le_mul_right _ hi
  have hslot : ((d.drop (rom.slotLen * i)).take rom.slotLen).length = rom.slotLen := by
    rw [Nat.succ_mul] at hend
    rw [List.length_take, List.length_drop, Nat.mul_comm]
    omega
  rw [hframe, ← hbefore]
  refine ⟨fun j hj => ?inSlot, fun j hj => ?after⟩
  case inSlot =>
    rw [List.getD_append_right _ _ _ _ (by omega), Nat.add_sub_cancel_left, List.getD_append _ _ _ _ (by omega),
      List.getD_eq_getElem?_getD, List.getElem?_take_of_lt hj, List.getElem?_drop, ← List.getD_eq_getElem?_getD, Nat.mul_comm]
  case after =>
    rw [Nat.add_assoc, List.getD_append_right _ _ _ _ (by omega), Nat.add_sub_cancel_left,
      List.getD_append_right _ _ _ _ (by omega), hslot, Nat.add_sub_cancel_left, List.getD_append _ _ _ _ hj]

theorem plFrame_data (hd : d.length = slotsOf rom p.row * rom.slotLen) (hslot : 0 < rom.slotLen) {n : Nat} (hn : n < d.length) :
    (plFrame rom p d).getD (rom.hdrLen + dataPlace rom p.pilots n) Sample.zero = d.getD n Sample.zero := by
  obtain ⟨hdata, -⟩ := plFrame_slot hd (i := n / rom.slotLen) (Nat.div_lt_of_lt_mul (by rwa [Nat.mul_comm, ← hd]))
  rw [dataPlace_eq_slotStart, ← Nat.add_assoc, hdata _ (Nat.mod_lt n hslot), Nat.div_add_mod']

/-- A pilot block is what follows the last slot of its period of slots. -/
theorem blockStart_eq (hperiod : 0 < rom.pilotPeriod) {b : Nat} (hb : b < pilotBlocks rom p.row p.pilots) :
    ∃ i, i < slotsOf rom p.row ∧ blockStart rom b = slotStart rom p.pilots i + rom.slotLen ∧
      afterSlot rom p.pilots (slotsOf rom p.row) i = pilotBlock rom := by
  cases hpilots : p.pilots with
  | false => simp [pilotBlocks, hpilots] at hb
  | true =>
    rw [pilotBlocks, hpilots, if_pos rfl, Nat.lt_iff_add_one_le, Nat.le_div_iff_mul_le hperiod] at hb
    obtain ⟨q, hq⟩ := Nat.exists_eq_add_one.2 hperiod
    have hnext : b * rom.pilotPeriod + q + 1 = (b + 1) * rom.pilotPeriod := by rw [Nat.succ_mul]; omega
    have hlast : (b + 1) * rom.pilotPeriod < slotsOf rom p.row := by
      have := Nat.mul_pos (Nat.succ_pos b) hperiod
      omega
    have hdiv : (b * rom.pilotPeriod + q) / rom.pilotPeriod = b := by
      rw [Nat.mul_comm, Nat.mul_add_div hperiod, Nat.div_eq_of_lt (by omega), Nat.add_zero]
    refine ⟨b * rom.pilotPeriod + q, by omega, ?start, ?block⟩
    case start => rw [blockStart, slotStart, if_pos rfl, hdiv, ← Nat.mul_assoc, ← hnext, Nat.succ_mul]; omega
    case block => simp [afterSlot, hnext, hlast]

/-- Symbol `j` of a pilot block is the pilot symbol. -/
theorem plFrame_pilot (hd : d.length = slotsOf rom p.row * rom.slotLen) (hperiod : 0 < rom.pilotPeriod) {b : Nat}
    (hb : b < pilotBlocks rom p.row p.pilots) (hj : j < rom.pilotLen) :
    (plFrame rom p d).getD (rom.hdrLen + (blockStart rom b + j)) Sample.zero = rom.pilotSym := by
  obtain ⟨i, hi, hstart, hblock⟩ := blockStart_eq hperiod hb
  obtain ⟨-, hafter⟩ := plFrame_slot hd hi
  rw [hblock] at hafter
  rw [hstart, ← Nat.add_assoc, ← Nat.add_assoc, hafter j (by simpa [pilotBlock] using hj)]
  simp [pilotBlock, hj]

/-! ### The place of an index (R283) -/

theorem symbolKind_header (hk : k < rom.hdrLen) : symbolKind rom p k = .header k := if_pos hk

theorem symbolKind_noPilots (hpilots : p.pilots = false) (u : Nat) : symbolKind rom p (rom.hdrLen + u) = .data u := by
  simp [symbolKind, hpilots]

/-- With pilots, symbol `v` of period `g`. -/
theorem symbolKind_pilots (hpilots : p.pilots = true) {g v : Nat} (hv : v < blockPeriod rom) :
    symbolKind rom p (rom.hdrLen + (g * blockPeriod rom + v)) =
      if v < rom.pilotPeriod * rom.slotLen then .data (g * (rom.pilotPeriod * rom.slotLen) + v)
      else if g < pilotBlocks rom p.row p.pilots then .pilot g (v - rom.pilotPeriod * rom.slotLen)
      else .data (g * (rom.pilotPeriod * rom.slotLen) + v) := by
  have hdiv : (g * blockPeriod rom + v) / blockPeriod rom = g := by
    rw [Nat.mul_comm, Nat.mul_add_div (by omega), Nat.div_eq_of_lt hv, Nat.add_zero]
  have hmod : (g * blockPeriod rom + v) % blockPeriod rom = v := by
    rw [Nat.mul_comm, Nat.mul_add_mod, Nat.mod_eq_of_lt hv]
  have hnot : ¬ rom.hdrLen + (g * blockPeriod rom + v) < rom.hdrLen := by omega
  rw [blockPeriod] at hdiv hmod hnot ⊢
  simp only [symbolKind, hnot, if_false, Nat.add_sub_cancel_left, hdiv, hmod, hpilots, Bool.true_eq_false]

/-- The slots of a frame with pilots fill the periods that a block follows, and no period after them. -/
theorem slotsOf_mul_bounds (hpilots : p.pilots = true) (hperiod : 0 < rom.pilotPeriod) :
    pilotBlocks rom p.row p.pilots * (rom.pilotPeriod * rom.slotLen) ≤ slotsOf rom p.row * rom.slotLen ∧
      slotsOf rom p.row * rom.slotLen ≤ (pilotBlocks rom p.row p.pilots + 1) * (rom.pilotPeriod * rom.slotLen) := by
  rw [← Nat.mul_assoc, ← Nat.mul_assoc, pilotBlocks, hpilots, if_pos rfl]
  have hle := Nat.div_mul_le_self (slotsOf rom p.row - 1) rom.pilotPeriod
  have hlt := Nat.lt_div_mul_add hperiod (a := slotsOf rom p.row - 1)
  refine ⟨Nat.mul_le_mul_right _ (by omega), Nat.mul_le_mul_right _ ?_⟩
  rw [Nat.succ_mul]
  omega

/-- No symbol of the frame lies in a period after the one that follows the last pilot block. -/
theorem le_pilotBlocks (hpilots : p.pilots = true) (hperiod : 0 < rom.pilotPeriod) {g v : Nat}
    (hu : g * blockPeriod rom + v < slotsOf rom p.row * rom.slotLen + pilotBlocks rom p.row p.pilots * rom.pilotLen) :
    g ≤ pilotBlocks rom p.row p.pilots := by
  obtain ⟨-, hend⟩ := slotsOf_mul_bounds (rom := rom) (p := p) hpilots hperiod
  by_contra hgt
  have hruns := Nat.mul_le_mul_right (rom.pilotPeriod * rom.slotLen) (not_le.1 hgt)
  have hblocks := Nat.mul_le_mul_right rom.pilotLen (not_le.1 hgt).le
  rw [Nat.succ_eq_add_one] at hruns
  rw [blockPeriod, Nat.mul_add] at hu
  omega

/-- `Place rom p k t`: at index `k` of a PL frame stands a symbol of kind `t`. -/
inductive Place (rom : Rom) (p : Prof) : Nat → SymbolKind → Prop
  | header {k : Nat} (hk : k < rom.hdrLen) : Place rom p k (.header k)
  | data {n : Nat} (hn : n < slotsOf rom p.row * rom.slotLen) :
      Place rom p (rom.hdrLen + dataPlace rom p.pilots n) (.data n)
  | pilot {b j : Nat} (hb : b < pilotBlocks rom p.row p.pilots) (hj : j < rom.pilotLen) :
      Place rom p (rom.hdrLen + (blockStart rom b + j)) (.pilot b j)

/-- With pilots, `kind` names the place of symbol `v` of period `g`: a data symbol in the period's run of data, else a symbol of
the pilot block after the run. -/
theorem place_pilots (hpilots : p.pilots = true) (hslot : 0 < rom.slotLen) (hperiod : 0 < rom.pilotPeriod) {g v : Nat}
    (hv : v < blockPeriod rom)
    (hu : g * blockPeriod rom + v < slotsOf rom p.row * rom.slotLen + pilotBlocks rom p.row p.pilots * rom.pilotLen) :
    Place rom p (rom.hdrLen + (g * blockPeriod rom + v)) (symbolKind rom p (rom.hdrLen + (g * blockPeriod rom + v))) := by
  obtain ⟨hwhole, hend⟩ := slotsOf_mul_bounds (rom := rom) (p := p) hpilots hperiod
  have hg := le_pilotBlocks hpilots hperiod hu
  have hindex : g * blockPeriod rom + v = g * (rom.pilotPeriod * rom.slotLen) + v + g * rom.pilotLen := by
    rw [blockPeriod, Nat.mul_add, Nat.add_right_comm]
  rw [symbolKind_pilots hpilots hv]
  split
  · next hrun =>
    have hn : g * (rom.pilotPeriod * rom.slotLen) + v < slotsOf rom p.row * rom.slotLen := by
      obtain rfl | hlt := hg.eq_or_lt
      · omega
      · have hruns := Nat.mul_le_mul_right (rom.pilotPeriod * rom.slotLen) (Nat.succ_le_of_lt hlt)
        rw [Nat.succ_mul] at hruns
        omega
    have hplace : dataPlace rom p.pilots (g * (rom.pilotPeriod * rom.slotLen) + v) = g * blockPeriod rom + v := by
      rw [dataPlace, if_pos hpilots, Nat.mul_comm g, Nat.mul_add_div (Nat.mul_pos hperiod hslot), Nat.div_eq_of_lt hrun,
        Nat.add_zero, Nat.mul_comm _ g, hindex]
    exact hplace ▸ .data hn
  · next hafter =>
    have hlt : g < pilotBlocks rom p.row p.pilots := by
      refine lt_of_le_of_ne hg fun heq => ?_
      rw [Nat.add_one_mul] at hend
      rw [heq] at hindex hu
      omega
    have hplace : blockStart rom g + (v - rom.pilotPeriod * rom.slotLen) = g * blockPeriod rom + v := by
      rw [blockStart, Nat.add_one_mul, hindex]
      omega
    rw [if_pos hlt, ← hplace]
    exact .pilot hlt (by rw [blockPeriod] at hv; omega)

/-- `kind(k)` names the place of index `k`. -/
theorem place_symbolKind (hslot : 0 < rom.slotLen) (hperiod : 0 < rom.pilotPeriod) (hk : k < plLength rom p.row p.pilots) :
    Place rom p k (symbolKind rom p k) := by
  by_cases hheader : k < rom.hdrLen
  · rw [symbolKind_header hheader]
    exact .header hheader
  obtain ⟨u, rfl⟩ := Nat.exists_eq_add_of_le (not_lt.1 hheader)
  rw [plLength, Nat.add_assoc, Nat.add_lt_add_iff_left] at hk
  cases hpilots : p.pilots with
  | false =>
    have hn : u < slotsOf rom p.row * rom.slotLen := by simpa [pilotBlocks, hpilots] using hk
    have hplace : dataPlace rom p.pilots u = u := by simp [dataPlace, hpilots]
    rw [symbolKind_noPilots hpilots]
    exact (congrArg (rom.hdrLen + ·) hplace) ▸ Place.data hn
  | true =>
    have hblock : 0 < blockPeriod rom := Nat.add_pos_left (Nat.mul_pos hperiod hslot) _
    rw [← Nat.div_add_mod' u (blockPeriod rom)] at hk ⊢
    exact place_pilots hpilots hslot hperiod (Nat.mod_lt u hblock) hk

end

/-! ### PLFRM (R282) -/

/-- PLFRM with its input FULL and its output EMPTY (R282). -/
theorem exec_plfrm {s : State} {p : Prof} {d : List Sample} (hp : s.session = .active p) (hin : s.tb4 = some d)
    (hout : s.tb5 = none) :
    exec .plfrm s = .next (respond 0x00 (BitVec.ofNat 32 p.lpl)
      { s with tb4 := none, tb5 := some (plFrame s.rom p d) }) := by
  simp only [exec, execPlfrm, whenActive_active hp, hin, hout, respondOk_eq]

theorem plFrame_length_of_slots {rom : Rom} {p : Prof} {d : List Sample}
    (hd : d.length = slotsOf rom p.row * rom.slotLen) : (plFrame rom p d).length = plLength rom p.row p.pilots := by
  rw [plFrame, List.length_append, profHeader_length, slotsWithPilots_length rom p.pilots _ (by simp),
    groupsOf_flatten _ _ _ hd, pilotsFrom_zero, plLength, hd, Nat.add_assoc]

/-- Settles O40: the place that `kind` names holds what PLFRM puts at that place, and the header is made bit by bit. -/
theorem plfrmBuildsFrame : Obligations.PlfrmBuildsFrame := by
  refine ⟨fun s p d hp hin hout => ⟨_, exec_plfrm hp hin hout, ?frame⟩,
    fun rom p hroom => ⟨profHeader_length .., ?header⟩, rfl, rfl, rfl, rfl⟩
  case frame =>
    intro hslot hperiod _ hd hlpl
    refine ⟨hlpl ▸ plFrame_length_of_slots hd, profHeader_length .., fun k hk => ?_⟩
    have hplace := place_symbolKind hslot hperiod (hlpl ▸ hk)
    generalize symbolKind s.rom p k = kind at hplace ⊢
    cases hplace with
    | header hk => exact ⟨hk, plFrame_header hk⟩
    | data hn => exact ⟨hd ▸ hn, plFrame_data hd hslot (hd ▸ hn)⟩
    | pilot hb hj => exact ⟨hb, hj, plFrame_pilot hd hperiod hb hj⟩
  case header =>
    intro n hn
    rw [profHeader_getD rom p hn, headerBits_getD p hroom hn]
    exact ⟨headerSymbol_im .., headerSymbol_re ..⟩

end Sys2Proof.Machine
end

section
/-! PROOFS of the family 46_filter.md: SHAPE and MFILT as sums over a window of samples, the newest first (R299, R300, R303), and
what does not matter to them (R305). After every sample a delay line holds the newest `len` of all samples so far, so a run of the
loop reads the same windows as the unbounded stream `(the samples so far).reverse ++ (the delay line before)`. -/

namespace Sys2Proof.Machine

open Sys2Proof.Safety

/-! ### The delay line as the newest samples of a stream -/

/-- The newest `len` samples after `x` are `x` and the newest of the samples before it. -/
theorem shiftIn_take {len : Nat} {dl h : List Sample} (x : Sample) (hdl : dl = h.take len) :
    shiftIn len x dl = (x :: h).take len := by
  subst hdl
  cases len with
  | zero => rfl
  | succ len => simp [shiftIn, List.take_take]

theorem shapeFrame_delay (taps : List Int) (sps : Nat) {span : Nat} (f : List Sample) {dl h : List Sample}
    (hdl : dl = h.take span) : (shapeFrame taps sps span f dl).2 = (f.reverse ++ h).take span := by
  induction f generalizing dl h with
  | nil => exact hdl
  | cons x f ih => rw [shapeFrame, ih (shiftIn_take x hdl), List.reverse_cons, ← List.append_cons]

theorem mfiltRun_delay (taps : List Int) {len : Nat} (x : List TaggedSample) {dl h : List Sample} (hdl : dl = h.take len) :
    (mfiltRun taps len x dl).2 = ((x.map (·.sample)).reverse ++ h).take len := by
  induction x generalizing dl h with
  | nil => exact hdl
  | cons a x ih => rw [mfiltRun, ih (shiftIn_take a.sample hdl), List.map_cons, List.reverse_cons, ← List.append_cons]

/-! ### The sums of R299 and R303 -/

/-- One output component, rounded and saturated (R299, R303). -/
theorem component_satSample_rnd (im : Bool) (acc : Bool → Int) :
    component im (satSample (rnd (acc false) 15) (rnd (acc true) 15)) = filtered (acc im) := by
  cases im <;> simp [component, filtered, rnd_succ]

theorem component_zero (im : Bool) : component im Sample.zero = 0 := by cases im <;> rfl

theorem getD_map_component (im : Bool) (d : List Sample) (j : Nat) :
    (d.map (component im)).getD j 0 = component im (d.getD j Sample.zero) := by
  rw [← component_zero im, List.getD_map]

theorem component_shapeSample (im : Bool) (taps : List Int) (sps span q : Nat) (d : List Sample) :
    component im (shapeSample taps sps span q d) = filtered (shapeAcc taps sps span q (d.map (component im))) :=
  component_satSample_rnd im fun im => shapeAcc taps sps span q (d.map (component im))

theorem component_mfiltSample (im : Bool) (taps : List Int) (e : List Sample) :
    component im (mfiltSample taps e) = filtered (firAcc taps (e.map (component im))) :=
  component_satSample_rnd im fun im => firAcc taps (e.map (component im))

/-- The accumulator of phase `q` as the sum over the taps that exist (R299). -/
theorem shapeAcc_eq_sum {taps : List Int} {sps span : Nat} (htaps : taps.length = span * sps + 1) (q : Nat) (d : List Int) :
    shapeAcc taps sps span q d =
      (((List.range (span + 1)).filter (fun j => decide (q + j * sps ≤ span * sps))).map
        (fun j => taps.getD (q + j * sps) 0 * d.getD j 0)).sum := by
  simp only [shapeAcc, htaps, Nat.lt_succ_iff, List.sum_map_ite, List.map_const', List.sum_replicate, smul_zero, add_zero]

/-- The accumulator of the matched filter as a sum over the taps (R303). -/
theorem firAcc_eq_sum (taps e : List Int) :
    firAcc taps e = ((List.range taps.length).map (fun i => taps.getD i 0 * e.getD i 0)).sum := by
  induction taps generalizing e with
  | nil => rfl
  | cons h taps ih =>
    cases e with
    | nil => simp [firAcc]
    | cons x e =>
      have htail : firAcc (h :: taps) (x :: e) = h * x + firAcc taps e := List.sum_cons
      rw [htail, ih, List.length_cons, List.range_succ_eq_map, List.map_cons, List.sum_cons, List.map_map]
      rfl

/-! ### The window of a sample -/

/-- The accumulator of a phase reads no symbol before d[span]. -/
theorem shapeAcc_take (taps : List Int) (sps span q : Nat) (d : List Int) :
    shapeAcc taps sps span q (d.take (span + 1)) = shapeAcc taps sps span q d := by
  refine congrArg List.sum (List.map_congr_left fun j hj => ?_)
  have hread : (d.take (span + 1)).getD j 0 = d.getD j 0 := by
    rw [List.getD_eq_getElem?_getD, List.getElem?_take_of_lt (List.mem_range.1 hj), ← List.getD_eq_getElem?_getD]
  rw [hread]

theorem shapeSample_take (taps : List Int) (sps span q : Nat) (x : Sample) (h : List Sample) :
    shapeSample taps sps span q (x :: h.take span) = shapeSample taps sps span q (x :: h) := by
  simp only [shapeSample, ← List.take_succ_cons, List.map_take, shapeAcc_take]

/-- The accumulator of the matched filter reads one sample for each tap. -/
theorem firAcc_take (taps e : List Int) : firAcc taps (e.take taps.length) = firAcc taps e := by
  have hwindow : List.zipWith (· * ·) taps (e.take taps.length) = (List.zipWith (· * ·) taps e).take taps.length := by
    rw [List.take_zipWith, List.take_length]
  rw [firAcc, hwindow, List.take_of_length_le (by simp), firAcc]

theorem mfiltSample_take {taps : List Int} {len : Nat} (htaps : taps.length = len + 1) (x : Sample) (h : List Sample) :
    mfiltSample taps (x :: h.take len) = mfiltSample taps (x :: h) := by
  simp only [mfiltSample, ← List.take_succ_cons, ← htaps, List.map_take, firAcc_take]

/-! ### The output, sample by sample -/

theorem shapeSymbol_getD (taps : List Int) {sps q : Nat} (span : Nat) (dl : List Sample) (x : Sample) (hq : q < sps) :
    (shapeSymbol taps sps span dl x).getD q Sample.zero = shapeSample taps sps span q (x :: dl) := by
  simp [shapeSymbol, hq]

/-- Phase `q` of symbol `n` is the filter's value at the symbols up to `n` (R299, R300). -/
theorem shapeFrame_getD (taps : List Int) {sps span n q : Nat} {f dl h : List Sample} (hdl : dl = h.take span)
    (hn : n < f.length) (hq : q < sps) :
    (shapeFrame taps sps span f dl).1.getD (n * sps + q) Sample.zero =
      shapeSample taps sps span q ((f.take (n + 1)).reverse ++ h) := by
  induction f generalizing n dl h with
  | nil => contradiction
  | cons x f ih =>
    rw [shapeFrame]
    cases n with
    | zero =>
      rw [Nat.zero_mul, Nat.zero_add, List.getD_append _ _ _ _ (by rwa [shapeSymbol_length]), shapeSymbol_getD _ _ _ _ hq,
        hdl, shapeSample_take]
      rfl
    | succ n =>
      have hindex : (n + 1) * sps + q = sps + (n * sps + q) := by rw [Nat.succ_mul]; omega
      rw [hindex, List.getD_append_right _ _ _ _ (by rw [shapeSymbol_length]; omega), shapeSymbol_length,
        Nat.add_sub_cancel_left, ih (shiftIn_take x hdl) (Nat.lt_of_succ_lt_succ hn), List.take_succ_cons,
        List.reverse_cons, ← List.append_cons]

/-- Output sample `k` is the filter's value at the samples up to `k`, with the tags of input sample `k` (R303). -/
theorem mfiltRun_getElem? {taps : List Int} {len : Nat} (htaps : taps.length = len + 1) {k : Nat} {x : List TaggedSample}
    {a : TaggedSample} {dl h : List Sample} (hdl : dl = h.take len) (ha : x[k]? = some a) :
    (mfiltRun taps len x dl).1[k]? =
      some { a with sample := mfiltSample taps (((x.take (k + 1)).map (·.sample)).reverse ++ h) } := by
  induction x generalizing k dl h with
  | nil => contradiction
  | cons b x ih =>
    rw [mfiltRun]
    cases k with
    | zero =>
      obtain rfl : b = a := Option.some.inj ha
      rw [hdl, mfiltSample_take htaps]
      rfl
    | succ k =>
      rw [List.getElem?_cons_succ, ih (shiftIn_take b.sample hdl) ha, List.take_succ_cons, List.map_cons, List.reverse_cons,
        ← List.append_cons]

/-! ### SHAPE and MFILT -/

/-- SHAPE with its input FULL and room for the frame's samples (R300). -/
theorem exec_shape {s : State} {p : Prof} {f : List Sample} (hp : s.session = .active p) (hin : s.tb5 = some f)
    (hroom : s.txq.length + p.lpl * p.sps ≤ s.rom.txqDepth) :
    exec .shape s = .next (respond 0x00 (BitVec.ofNat 32 (p.lpl * p.sps)) { s with
      tb5 := none
      txq := s.txq ++ (shapeFrame p.taps p.sps p.span f s.txdl).1
      txdl := (shapeFrame p.taps p.sps p.span f s.txdl).2 }) := by
  simp only [exec, execShape, whenActive_active hp, hin, if_pos hroom, respondOk_eq]

/-- MFILT n with n samples to take and room for them (R303). -/
theorem exec_mfilt {s : State} {p : Prof} {n : BitVec 16} (hp : s.session = .active p) (hn : n.toNat ≠ 0)
    (hhave : n.toNat ≤ s.rxq.length) (hroom : s.mfq.length + n.toNat ≤ s.rom.rxqDepth) :
    exec (.mfilt n) s = .next (respond 0x00 (n.setWidth 32) { s with
      rxq := s.rxq.drop n.toNat
      mfq := s.mfq ++ (mfiltRun p.taps (p.span * p.sps) (s.rxq.take n.toNat) s.rxdl).1
      rxdl := (mfiltRun p.taps (p.span * p.sps) (s.rxq.take n.toNat) s.rxdl).2 }) := by
  simp only [exec, execMfilt, whenCount_ne hn, whenActive_active hp, hhave, hroom, and_self, if_true, respondOk_eq, tapCount,
    Nat.add_sub_cancel]

/-- Settles O41: each sample of the frame is the filter's value at its window, and `TXDL` is the newest symbols. -/
theorem shapeFilters : Obligations.ShapeFilters := by
  intro s p f hp hin hroom
  refine ⟨_, _, exec_shape hp hin hroom, shapeFrame_length .., fun hlen htaps => ?_⟩
  have hdl : s.txdl = s.txdl.take p.span := (List.take_of_length_le hlen.le).symm
  refine ⟨shapeFrame_delay _ _ _ hdl, fun n q im hn hq d hd => ?_⟩
  rw [shapeFrame_getD _ hdl hn hq, ← hd, component_shapeSample, shapeAcc_eq_sum htaps]
  simp only [getD_map_component]

/-- Settles O42: each sample is the filter's value at its window with its own tags, and `RXDL` is the newest samples. -/
theorem mfiltFilters : Obligations.MfiltFilters := by
  intro s p n hp hn hhave hroom
  refine ⟨_, _, exec_mfilt hp hn hhave hroom, by rw [mfiltRun_length, List.length_take_of_le hhave], fun htaps hlen => ?_⟩
  have hdl : s.rxdl = s.rxdl.take (p.span * p.sps) := (List.take_of_length_le hlen.le).symm
  refine ⟨mfiltRun_delay _ _ hdl, fun k x hk hx => ?_⟩
  have htaken : (s.rxq.take n.toNat)[k]? = some x := (List.getElem?_take_of_lt hk).trans hx
  refine ⟨_, mfiltRun_getElem? htaps hdl htaken, rfl, rfl, fun im e he => ?_⟩
  rw [List.take_take, Nat.min_eq_left (Nat.succ_le_of_lt hk), ← he, component_mfiltSample, firAcc_eq_sum, htaps]
  simp only [getD_map_component]

/-! ### Splitting (R305) -/

/-- Filtering the first m + n samples is filtering m of them, then n of the rest from the delay line that the m leave (R305). -/
theorem mfiltRun_take_add (taps : List Int) (len m n : Nat) (x : List TaggedSample) (dl : List Sample) :
    mfiltRun taps len (x.take (m + n)) dl =
      ((mfiltRun taps len (x.take m) dl).1 ++
          (mfiltRun taps len ((x.drop m).take n) (mfiltRun taps len (x.take m) dl).2).1,
        (mfiltRun taps len ((x.drop m).take n) (mfiltRun taps len (x.take m) dl).2).2) := by
  rw [List.take_add, mfiltRun_append]

/-- Settles O43: filtering a list of samples in two parts, and SHAPE's samples and `TXDL` as one function of `TXDL` and the
frame. -/
theorem filterSplitting : Obligations.FilterSplitting := by
  refine ⟨?split, ?shape⟩
  case split =>
    intro s p n1 n2 n hp hn1 hn2 hsum hhave hroom
    have hmade : (mfiltRun p.taps (p.span * p.sps) (s.rxq.take n1.toNat) s.rxdl).1.length = n1.toNat := by
      rw [mfiltRun_length, List.length_take_of_le (by omega)]
    refine ⟨_, _, _, exec_mfilt hp hn1 (by omega) (by omega), exec_mfilt hp hn2 ?have2 ?room2,
      exec_mfilt hp (by omega) hhave hroom, ?same, ?length⟩
    case have2 => simp only [respond_rxq, List.length_drop]; omega
    case room2 => simp only [respond_mfq, respond_rom, List.length_append, hmade]; omega
    case same =>
      simp only [respond, ← hsum, mfiltRun_take_add, List.drop_drop, List.append_assoc]
    case length => rw [respond_mfq, List.length_append, mfiltRun_length, List.length_take_of_le hhave]
  case shape =>
    intro s s' p f hp hp' hin hin' hdl hroom hroom'
    have hsame : shapeFrame p.taps p.sps p.span f s'.txdl = shapeFrame p.taps p.sps p.span f s.txdl := by rw [hdl]
    exact ⟨_, _, _, exec_shape hp hin hroom, exec_shape hp' hin' hroom', rfl, by rw [hsame]; rfl, by rw [hsame]; rfl, rfl,
      rfl⟩

end Sys2Proof.Machine
end

section
/-! PROOFS of the family 47_synchronizer.md, one sample: the correlation and the search (R320, R321), the symbol instant (R323), the
end of a block (R324 to R326, R339, R340), a gap (R332), and SYNC 1, which takes one sample (R318). -/

namespace Sys2Proof.Machine

open Sys2Proof.Safety

/-! ### The correlation (R320) -/

theorem foldl_cxAdd (l : List Cx) (a : Cx) :
    l.foldl cxAdd a = ⟨a.re + (l.map (·.re)).sum, a.im + (l.map (·.im)).sum⟩ := by
  induction l generalizing a with
  | nil => simp
  | cons z l ih => simp [ih, cxAdd, add_assoc]

theorem map_zipIdx_eq_map_range {α β : Type} (l : List α) (d : α) (f : α × Nat → β) :
    l.zipIdx.map f = (List.range l.length).map (fun k => f (l.getD k d, k)) := by
  apply List.ext_getElem
  · simp
  · intro k hk _
    have hlt : k < l.length := by simpa using hk
    simp [hlt]

/-- The correlation as the two sums of R320. -/
theorem correlate_eq_sum (hdr win : List Sample) (sps off : Nat) :
    correlate hdr win sps off =
      ⟨((List.range hdr.length).map (fun k =>
          (hdr.getD k .zero).re.toInt * (win.getD (off - k * sps) .zero).re.toInt +
          (hdr.getD k .zero).im.toInt * (win.getD (off - k * sps) .zero).im.toInt)).sum,
       ((List.range hdr.length).map (fun k =>
          (hdr.getD k .zero).re.toInt * (win.getD (off - k * sps) .zero).im.toInt -
          (hdr.getD k .zero).im.toInt * (win.getD (off - k * sps) .zero).re.toInt)).sum⟩ := by
  rw [correlate, map_zipIdx_eq_map_range hdr .zero, foldl_cxAdd]
  simp only [List.map_map, zero_add]
  rfl

/-! ### The search (R321) -/

/-- The candidate `d` is the first of the largest among the `n` candidates. -/
structure IsBestCandidate (metric : Nat → Int) (n d : Nat) : Prop where
  lt : d < n
  largest : ∀ d', d' < n → metric d' ≤ metric d
  first : ∀ d', d' < d → metric d' < metric d

theorem bestCandidate_succ (metric : Nat → Int) (n : Nat) :
    bestCandidate metric (n + 1) =
      if metric n > metric (bestCandidate metric n) then n else bestCandidate metric n := by
  rw [bestCandidate, List.range_succ, List.foldl_append]
  rfl

theorem bestCandidate_isBest (metric : Nat → Int) {n : Nat} (hn : 0 < n) :
    IsBestCandidate metric n (bestCandidate metric n) := by
  induction n, hn using Nat.le_induction with
  | base =>
    have hone : bestCandidate metric 1 = 0 := by simp [bestCandidate]
    rw [hone]
    exact ⟨by omega, fun d' h => by rw [Nat.lt_one_iff.1 h], fun d' h => absurd h (by omega)⟩
  | succ n _ ih =>
    rw [bestCandidate_succ]
    split
    · next hmore =>
      refine ⟨by omega, fun d' h => ?_, fun d' h => lt_of_le_of_lt (ih.largest d' h) hmore⟩
      obtain h | rfl : d' < n ∨ d' = n := by omega
      · exact (ih.largest d' h).trans hmore.le
      · exact le_rfl
    · next hless =>
      refine ⟨ih.lt.trans (by omega), fun d' h => ?_, ih.first⟩
      obtain h | rfl : d' < n ∨ d' = n := by omega
      · exact ih.largest d' h
      · exact not_lt.1 hless

section
variable {hdr : List Sample} {p : Prof} {e : Nat} {r : SyncRun}

theorem searchStep_tooEarly (h : e + 1 < r.st.rom.hdrLen * p.sps) : searchStep hdr p e r = r := if_pos h

theorem searchStep_noPeak
    (h : normSq (correlate hdr r.st.sync.win p.sps (r.st.rom.hdrLen * p.sps - 1)) >>> p.tshift ≤ (p.thresh : Int)) :
    searchStep hdr p e r = r := by
  have hexceeds : exceeds p (normSq (correlate hdr r.st.sync.win p.sps (r.st.rom.hdrLen * p.sps - 1 - 0))) = false :=
    decide_eq_false (not_lt.2 h)
  unfold searchStep
  split
  · rfl
  · simp only [hexceeds, Bool.false_eq_true, if_false]

theorem searchStep_locks (hguard : r.st.rom.hdrLen * p.sps ≤ e + 1) (hsps : 0 < p.sps)
    (h : (p.thresh : Int) < normSq (correlate hdr r.st.sync.win p.sps (r.st.rom.hdrLen * p.sps - 1)) >>> p.tshift) :
    ∃ d, IsBestCandidate
        (fun d => normSq (correlate hdr r.st.sync.win p.sps (r.st.rom.hdrLen * p.sps - 1 - d))) p.sps d ∧
      searchStep hdr p e r = { r with
        locked := true
        st := { r.st with
          event := r.st.event ||| 0x80
          sync := { r.st.sync with
            mode := .locked, estFreq := 0, estTiming := 0
            estPhase := (romArg r.st.rom (correlate hdr r.st.sync.win p.sps (r.st.rom.hdrLen * p.sps - 1 - d))).extractLsb' 16 16
            wPhase := romArg r.st.rom (correlate hdr r.st.sync.win p.sps (r.st.rom.hdrLen * p.sps - 1 - d))
            wDph := 0, wTiming := 0, next := ((e + 1 - r.st.rom.hdrLen * p.sps + d : Nat) : Int), k := r.st.rom.hdrLen, miss := 0
            acc := [], cAcc := ⟨0, 0⟩, eAcc := ⟨0, 0⟩, lAcc := ⟨0, 0⟩, since := 0, sinceCarry := 0 } } } := by
  refine ⟨_, bestCandidate_isBest _ hsps, ?_⟩
  have hexceeds : exceeds p (normSq (correlate hdr r.st.sync.win p.sps (r.st.rom.hdrLen * p.sps - 1 - 0))) = true :=
    decide_eq_true h
  rw [searchStep, if_neg (not_lt.2 hguard)]
  simp only [hexceeds, if_true]
  rfl

end

/-! ### The symbol instant (R323) -/

/-- `P_INTERP` of the three newest samples of a window at the timing `tau`. -/
def interpWindow (rom : Rom) (win : List Sample) (tau : Int) : Sample :=
  romInterp rom (win.getD 2 .zero) (win.getD 1 .zero) (win.getD 0 .zero) tau

/-- The symbol of the instant: interpolated at `W_TIMING`, rotated by -`W_PHASE`. -/
def instantSymbol (rom : Rom) (y : SyncState) : Sample :=
  romRot rom (interpWindow rom y.win y.wTiming.toInt).toCx (-y.wPhase)

/-- What every symbol advances: `SINCE` with its carry, `W_PHASE` and `K`. -/
def advanceSymbol (y : SyncState) : SyncState :=
  { y with
    since := y.since + 1, sinceCarry := if y.since = 0xFFFF then y.sinceCarry + 1 else y.sinceCarry
    wPhase := y.wPhase + y.wDph, k := y.k + 1 }

/-- A header or pilot symbol, compared with `ref`, in the three accumulators. -/
def accumulateKnown (rom : Rom) (ref : Sample) (y : SyncState) : SyncState :=
  { y with
    cAcc := cxAdd y.cAcc (conjMul ref.toCx (instantSymbol rom y).toCx)
    eAcc := cxAdd y.eAcc (conjMul ref.toCx (interpWindow rom y.win (y.wTiming.toInt - 16384)).toCx)
    lAcc := cxAdd y.lAcc (conjMul ref.toCx (interpWindow rom y.win (y.wTiming.toInt + 16384)).toCx) }

/-- The synchronization state after a data symbol. -/
def dataTaken (rom : Rom) (y : SyncState) : SyncState := { advanceSymbol y with acc := y.acc ++ [instantSymbol rom y] }

/-- The synchronization state after a header or pilot symbol that is known to be `ref`. -/
def knownTaken (rom : Rom) (ref : Sample) (y : SyncState) : SyncState := advanceSymbol (accumulateKnown rom ref y)

/-- A symbol of kind `kd` is known to be `ref`: the header symbol of its number, or the pilot symbol. -/
def IsReference (rom : Rom) (hdr : List Sample) (kd : SymbolKind) (ref : Sample) : Prop :=
  (∃ n, kd = .header n ∧ ref = hdr.getD n .zero) ∨ ∃ b n, kd = .pilot b n ∧ ref = rom.pilotSym

section
variable {rom : Rom} {hdr : List Sample} {p : Prof} {y : SyncState}

theorem takeSymbol_data (h : isData (symbolKind rom p y.k) = true) :
    takeSymbol rom hdr p y = dataTaken rom y := by
  cases hkind : symbolKind rom p y.k with
  | data n =>
    simp only [takeSymbol, hkind]
    rfl
  | header n | pilot b n => simp [hkind, isData] at h

theorem takeSymbol_known {ref : Sample} (h : IsReference rom hdr (symbolKind rom p y.k) ref) :
    takeSymbol rom hdr p y = knownTaken rom ref y := by
  obtain ⟨n, hkind, rfl⟩ | ⟨b, n, hkind, rfl⟩ := h
  · simp only [takeSymbol, hkind]
    rfl
  · simp only [takeSymbol, hkind]
    rfl

theorem IsReference.isData_eq_false {kd : SymbolKind} {ref : Sample} (h : IsReference rom hdr kd ref) : isData kd = false := by
  obtain ⟨n, rfl, -⟩ | ⟨b, n, rfl, -⟩ := h
  · rfl
  · rfl

end

section
variable {hdr : List Sample} {p : Prof} {e : Nat} {r : SyncRun}

theorem lockedStep_away (h : (e : Int) ≠ r.st.sync.next + ((r.st.sync.k * p.sps + 1 : Nat) : Int)) :
    lockedStep hdr p e r = r := if_pos h

theorem lockedStep_instant (h : (e : Int) = r.st.sync.next + ((r.st.sync.k * p.sps + 1 : Nat) : Int)) :
    lockedStep hdr p e r = afterSymbol (atBlockEnd r.st.rom p (symbolKind r.st.rom p r.st.sync.k) (r.st.sync.k + 1)) p
      (symbolKind r.st.rom p r.st.sync.k) (modifySync (takeSymbol r.st.rom hdr p) r) := by
  rw [lockedStep_eq_afterSymbol, if_neg (not_not.2 h)]

theorem afterSymbol_inBlock {kd : SymbolKind} :
    afterSymbol false p kd r = if r.st.sync.k = p.lpl then frameClose p r else r := rfl

/-- At the end of a block: the block's end, then, unless that was a loss, the closing of the frame after its last symbol. -/
theorem afterSymbol_blockEnd {kd : SymbolKind} :
    afterSymbol true p kd r =
      if r.st.sync.k = p.lpl ∧ (blockEnd p kd r).2 = false then frameClose p (blockEnd p kd r).1 else (blockEnd p kd r).1 := by
  have hbranches : afterSymbol true p kd r = if (blockEnd p kd r).2 then (blockEnd p kd r).1
      else if (blockEnd p kd r).1.st.sync.k = p.lpl then frameClose p (blockEnd p kd r).1 else (blockEnd p kd r).1 := rfl
  rw [hbranches]
  obtain hloss | ⟨y, hy, hend⟩ := blockEnd_cases p kd r
  · simp [hloss]
  · have hk : (modifySync (fun _ => y) r).st.sync.k = r.st.sync.k := hy.k
    simp [hend, hk]

/-- A data symbol ends no block; the last of the frame closes it. -/
theorem lockedStep_data (h : (e : Int) = r.st.sync.next + ((r.st.sync.k * p.sps + 1 : Nat) : Int))
    (hdata : isData (symbolKind r.st.rom p r.st.sync.k) = true) :
    lockedStep hdr p e r = if r.st.sync.k + 1 = p.lpl then frameClose p (modifySync (dataTaken r.st.rom) r)
      else modifySync (dataTaken r.st.rom) r := by
  have hend : atBlockEnd r.st.rom p (symbolKind r.st.rom p r.st.sync.k) (r.st.sync.k + 1) = false := by
    rw [atBlockEnd, hdata, Bool.not_true, Bool.false_and]
  rw [lockedStep_instant h, hend, afterSymbol_inBlock, modifySync, takeSymbol_data hdata]
  rfl

section
variable {ref : Sample} (h : (e : Int) = r.st.sync.next + ((r.st.sync.k * p.sps + 1 : Nat) : Int))
  (href : IsReference r.st.rom hdr (symbolKind r.st.rom p r.st.sync.k) ref)
include h href

theorem lockedStep_known_inBlock (hk : r.st.sync.k + 1 ≠ p.lpl) (hnext : isData (symbolKind r.st.rom p (r.st.sync.k + 1)) = false) :
    lockedStep hdr p e r = modifySync (knownTaken r.st.rom ref) r := by
  have hend : atBlockEnd r.st.rom p (symbolKind r.st.rom p r.st.sync.k) (r.st.sync.k + 1) = false := by
    rw [atBlockEnd, hnext, beq_false_of_ne hk, Bool.or_false, Bool.and_false]
  rw [lockedStep_instant h, hend, afterSymbol_inBlock, modifySync, takeSymbol_known href]
  exact if_neg hk

theorem lockedStep_known_blockEnd (hlast : r.st.sync.k + 1 = p.lpl ∨ isData (symbolKind r.st.rom p (r.st.sync.k + 1)) = true)
    {b : SyncRun × Bool} (hb : b = blockEnd p (symbolKind r.st.rom p r.st.sync.k) (modifySync (knownTaken r.st.rom ref) r)) :
    lockedStep hdr p e r = if r.st.sync.k + 1 = p.lpl ∧ b.2 = false then frameClose p b.1 else b.1 := by
  have hend : atBlockEnd r.st.rom p (symbolKind r.st.rom p r.st.sync.k) (r.st.sync.k + 1) = true := by
    rw [atBlockEnd, href.isData_eq_false, Bool.not_false, Bool.true_and, Bool.or_eq_true, beq_iff_eq]
    exact hlast
  rw [lockedStep_instant h, hend, afterSymbol_blockEnd, modifySync, takeSymbol_known href, hb]
  rfl

end

end

/-! ### The loops (R324, R339, R340) -/

theorem ofInt_toInt_sixteen {z : Int} (hlo : -32768 ≤ z) (hhi : z < 32768) : (BitVec.ofInt 16 z).toInt = z :=
  BitVec.toInt_ofInt_eq_self (by decide) (by simpa using hlo) (by simpa using hhi)

/-- The slip test as the new `W_TIMING` and the move of `NEXT`. -/
def slip (t : Int) : BitVec 16 × Int :=
  if 16384 < t then (BitVec.ofInt 16 (t - 32768), 1)
  else if t < -16384 then (BitVec.ofInt 16 (t + 32768), -1)
  else (BitVec.ofInt 16 t, 0)

theorem slipTest_eq_slip (t : Int) (y : SyncState) :
    slipTest t y = { y with wTiming := (slip t).1, next := y.next + (slip t).2 } := by
  unfold slipTest slip
  by_cases hlate : 16384 < t
  · rw [if_pos hlate, if_pos hlate]
  · rw [if_neg hlate, if_neg hlate]
    split
    · rfl
    · rw [add_zero]

/-- A timing value that one slip brings back. -/
theorem slip_spec {t : Int} (hlo : -49152 ≤ t) (hhi : t ≤ 49152) :
    (16384 < t ∧ (slip t).1.toInt = t - 32768 ∧ (slip t).2 = 1) ∨
    (t < -16384 ∧ (slip t).1.toInt = t + 32768 ∧ (slip t).2 = -1) ∨
    (-16384 ≤ t ∧ t ≤ 16384 ∧ (slip t).1.toInt = t ∧ (slip t).2 = 0) := by
  unfold slip
  split
  · next hlate => exact .inl ⟨hlate, ofInt_toInt_sixteen (by omega) (by omega), rfl⟩
  · next hlate =>
    split
    · next hearly => exact .inr (.inl ⟨hearly, ofInt_toInt_sixteen (by omega) (by omega), rfl⟩)
    · next hearly => exact .inr (.inr ⟨by omega, by omega, ofInt_toInt_sixteen (by omega) (by omega), rfl⟩)

/-- Within its range `W_TIMING` does not slip. -/
theorem slip_toInt {w : BitVec 16} (hlo : -16384 ≤ w.toInt) (hhi : w.toInt ≤ 16384) : slip w.toInt = (w, 0) := by
  rw [slip, if_neg (by omega), if_neg (by omega), BitVec.ofInt_toInt]

/-- The synchronization state after the loops: the carrier's update over the true distance, and the timing value `t` with its
slip. -/
def loopsUpdated (rom : Rom) (p : Prof) (t : Int) (y : SyncState) : SyncState :=
  { y with
    since := 0, sinceCarry := 0, cAcc := ⟨0, 0⟩, eAcc := ⟨0, 0⟩, lAcc := ⟨0, 0⟩
    wTiming := (slip t).1, next := y.next + (slip t).2
    wPhase := (romCloop rom p.cloop y.cAcc (sinceCount y) y.wPhase y.wDph).1
    wDph := (romCloop rom p.cloop y.cAcc (sinceCount y) y.wPhase y.wDph).2 }

/-- What the timing loop answers, before the slip test. -/
def timingValue (rom : Rom) (p : Prof) (y : SyncState) : Int :=
  romTloop rom p.tloop y.cAcc y.eAcc y.lAcc y.wTiming.toInt

section
variable (rom : Rom) (p : Prof) (y : SyncState)

theorem updateLoops_header : updateLoops rom p true y = loopsUpdated rom p (timingValue rom p y) y := by
  simp only [updateLoops, if_true, slipTest_eq_slip]
  rfl

theorem updateLoops_pilot : updateLoops rom p false y = loopsUpdated rom p y.wTiming.toInt y := by
  simp only [updateLoops, Bool.false_eq_true, if_false, slipTest_eq_slip]
  rfl

end

/-- The default carrier loop (R339). -/
theorem romCloop_default {rom : Rom} {g : BitVec 16} {c : Cx} {n : Nat} {ph d : BitVec 32}
    (h : rom.cloop.lookup (g, c, n, ph, d) = none) : romCloop rom g c n ph d =
      (ph + BitVec.ofInt 32 ((romArg rom c).toInt >>> (g.extractLsb' 8 8).toNat),
       d + BitVec.ofInt 32 ((romArg rom c).toInt >>> ((g.extractLsb' 0 8).toNat + bitlen n))) := by
  rw [romCloop, platformOr_of_none h, pCloop]
  simp only [word32, BitVec.ofInt_add, BitVec.ofInt_toInt, BitVec.ofInt_natCast, BitVec.ofNat_toNat, BitVec.setWidth_eq]

section
variable {g : BitVec 16} {c e l : Cx} {w : Int}

theorem normSq_shiftRight_nonneg (z : Cx) (n : Nat) : 0 ≤ normSq z >>> n := by
  rw [Int.shiftRight_eq_div_pow]
  exact Int.ediv_nonneg (add_nonneg (mul_self_nonneg _) (mul_self_nonneg _)) (by positivity)

/-- The default timing loop (R340): a step up, a step down, or none. -/
theorem pTloop_cases (g : BitVec 16) (c e l : Cx) (w : Int) :
    (normSq c >>> (g.extractLsb' 8 8).toNat < normSq l - normSq e ∧
      pTloop g c e l w = w + ((2 ^ (g.toNat % 16) : Nat) : Int)) ∨
    (normSq l - normSq e ≤ normSq c >>> (g.extractLsb' 8 8).toNat ∧
      normSq c >>> (g.extractLsb' 8 8).toNat < normSq e - normSq l ∧
      pTloop g c e l w = w - ((2 ^ (g.toNat % 16) : Nat) : Int)) ∨
    (normSq l - normSq e ≤ normSq c >>> (g.extractLsb' 8 8).toNat ∧
      normSq e - normSq l ≤ normSq c >>> (g.extractLsb' 8 8).toNat ∧ pTloop g c e l w = w) := by
  have hstep : (g.extractLsb' 0 4).toNat = g.toNat % 16 := by simp [BitVec.extractLsb'_toNat]
  simp only [pTloop, hstep]
  split
  · next hlate => exact .inl ⟨hlate, rfl⟩
  · next hlate =>
    split
    · next hearly => exact .inr (.inl ⟨not_lt.1 hlate, hearly, rfl⟩)
    · next hearly => exact .inr (.inr ⟨not_lt.1 hlate, not_lt.1 hearly, rfl⟩)

/-- One step of the default timing loop from the range of `W_TIMING` stays where one slip brings it back. -/
theorem pTloop_bounds (hlo : -16384 ≤ w) (hhi : w ≤ 16384) : -49152 ≤ pTloop g c e l w ∧ pTloop g c e l w ≤ 49152 := by
  have hstep : 2 ^ (g.toNat % 16) ≤ 2 ^ 15 := Nat.pow_le_pow_right (by decide) (by omega)
  have hcases := pTloop_cases g c e l w
  generalize 2 ^ (g.toNat % 16) = step at hstep hcases
  omega

/-- The same of the platform's timing loop, where its values are such (`loopsSound`). -/
theorem romTloop_bounds {rom : Rom} (hrom : loopsSound rom = true) (hlo : -16384 ≤ w) (hhi : w ≤ 16384) :
    -49152 ≤ romTloop rom g c e l w ∧ romTloop rom g c e l w ≤ 49152 := by
  rw [romTloop]
  cases hrow : rom.tloop.lookup (g, c, e, l, w) with
  | none => rw [platformOr_of_none hrow]; exact pTloop_bounds hlo hhi
  | some v =>
    rw [platformOr_of_some hrow]
    obtain ⟨rows, rows', hsplit, -⟩ := List.lookup_eq_some_iff.1 hrow
    simp only [loopsSound, hsplit, List.all_eq_true, Bool.and_eq_true, decide_eq_true_eq] at hrom
    exact hrom ((g, c, e, l, w), v) (by simp)

end

/-! ### The end of a block (R324 to R326) -/

section
variable {p : Prof} {r : SyncRun}

/-- A miss that reaches the limit is a SynchronizationLoss. -/
theorem headerEnd_loss (hbelow : normSq r.st.sync.cAcc >>> p.tshift < (p.thresh : Int))
    (hmiss : p.miss ≤ r.st.sync.miss.toNat + 1) : headerEnd p r = ({ r with
      lost := true
      st := { r.st with
        lasterr := 0x0103, event := r.st.event ||| 4, cntSyncloss := satInc r.st.cntSyncloss
        sync := SyncState.cleared ((r.st.rom.hdrLen + 1) * p.sps) r.st.sync.pos } }, true) := by
  rw [headerEnd, below, decide_eq_true hbelow, if_pos rfl, if_pos hmiss]
  rfl

theorem headerEnd_miss (hbelow : normSq r.st.sync.cAcc >>> p.tshift < (p.thresh : Int))
    (hmiss : r.st.sync.miss.toNat + 1 < p.miss) : headerEnd p r = ({ r with st := { r.st with sync := { r.st.sync with
      miss := r.st.sync.miss + 1, cAcc := ⟨0, 0⟩, eAcc := ⟨0, 0⟩, lAcc := ⟨0, 0⟩ } } }, false) := by
  rw [headerEnd, below, decide_eq_true hbelow, if_pos rfl, if_neg (not_le.2 hmiss)]
  rfl

theorem headerEnd_passes (habove : (p.thresh : Int) ≤ normSq r.st.sync.cAcc >>> p.tshift) :
    headerEnd p r = ({ r with st := { r.st with 
      sync := loopsUpdated r.st.rom p (timingValue r.st.rom p r.st.sync) { r.st.sync with miss := 0 } } }, false) := by
  rw [headerEnd, below, decide_eq_false (not_lt.2 habove), if_neg Bool.false_ne_true]
  simp only [updateLoops_header]
  rfl

/-- The end of a pilot block: the loops with the timing as it is. -/
theorem blockEnd_pilot (b n : Nat) : blockEnd p (.pilot b n) r =
    ({ r with st := { r.st with sync := loopsUpdated r.st.rom p r.st.sync.wTiming.toInt r.st.sync } }, false) := by
  rw [← updateLoops_pilot]
  rfl

end

/-- Settles O48: the cases of the header check, the loops with the slip of the timing value, and the default loops. -/
theorem headerCheckPolicy : Obligations.HeaderCheckPolicy := by
  refine ⟨fun p r n => ⟨rfl, rfl⟩, fun p r => ⟨headerEnd_loss, headerEnd_miss, fun habove => ?passes, fun b n hlo hhi => ?pilot⟩,
    fun rom g c n ph d => romCloop_default, fun rom g c e l w hrow => ?timing⟩
  case passes =>
    refine ⟨loopsUpdated r.st.rom p (timingValue r.st.rom p r.st.sync) { r.st.sync with miss := 0 }, headerEnd_passes habove,
      rfl, fun t ht hlo hhi => ?_⟩
    have hslip := slip_spec hlo hhi
    have htiming : timingValue r.st.rom p r.st.sync = t := ht.symm
    simp only [loopsUpdated, htiming]
    omega
  case pilot => rw [blockEnd_pilot, loopsUpdated, slip_toInt hlo hhi, add_zero]
  case timing =>
    rw [romTloop, platformOr_of_none hrow]
    have hband := normSq_shiftRight_nonneg c (g.extractLsb' 8 8).toNat
    obtain ⟨hlate, h⟩ | ⟨hlate, hearly, h⟩ | ⟨hlate, hearly, h⟩ := pTloop_cases g c e l w
    · exact ⟨fun _ => h, fun _ => by omega, fun _ _ => by omega, pTloop_bounds⟩
    · exact ⟨fun _ => by omega, fun _ => h, fun _ _ => by omega, pTloop_bounds⟩
    · exact ⟨fun _ => by omega, fun _ => by omega, fun _ _ => h, pTloop_bounds⟩

/-! ### SYNC 1 takes one sample (R318) -/

/-! The responses of a SYNC that took one sample: with no flag, and with FRAME, LOCKED or DROPPED. -/

section
variable (t : State)

theorem syncValue_taken : syncValue ⟨t, 1, false, false, false, false⟩ = 1 := by simp [syncValue, flagAt]

theorem syncValue_delivered : syncValue ⟨t, 1, true, false, false, false⟩ = 0x10001 := by simp [syncValue, flagAt]

theorem syncValue_locked : syncValue ⟨t, 1, false, false, true, false⟩ = 0x40001 := by simp [syncValue, flagAt]

theorem syncValue_dropped : syncValue ⟨t, 1, false, false, false, true⟩ = 0x80001 := by simp [syncValue, flagAt]

end

section
variable {s : State} {p : Prof}

theorem exec_sync_one {x : TaggedSample} {rest : List TaggedSample} (hp : s.session = .active p) (hq : s.mfq = x :: rest)
    {r : SyncRun}
    {v : BitVec 32} (hr : consumeSample (profHeader s.rom p) p x rest (syncBegin s) = r) (hv : syncValue r = v) :
    exec (.sync 1) s = .next { r.st with rsp := s.rsp ++ [⟨0x00, v⟩] } := by
  have hloop : syncLoop (profHeader s.rom p) p 1 (syncBegin s) = r := by
    rw [syncLoop_cons (r := syncBegin s) 0 hq, hr]
    exact ite_self _
  have hrsp : r.st.rsp = s.rsp := hr ▸ (consumeSample_change _ _ _ _ _).rsp
  have hone : (1 : BitVec 16).toNat = 1 := rfl
  rw [exec_sync hp (by decide), hone, hloop, hv, ← hrsp]
  rfl

/-- The run of a SYNC that has removed its first sample, `POS` and `WIN` having taken it. -/
def runTaken (s : State) (x : Sample) (rest : List TaggedSample) : SyncRun :=
  ⟨{ s with mfq := rest, sync := { s.sync with pos := s.sync.pos + 1, win := x :: s.sync.win.dropLast } },
    1, false, false, false, false⟩

theorem consumeSample_searching (hdr : List Sample) (p : Prof) (x : Sample) (gl : BitVec 32) (rest : List TaggedSample)
    (h : s.sync.mode = .searching) :
    consumeSample hdr p ⟨x, false, gl⟩ rest (syncBegin s) = searchStep hdr p s.sync.pos (runTaken s x rest) :=
  sampleStep_searching (r := { syncBegin s with st := { s with mfq := rest }, consumed := 1 }) h

theorem consumeSample_locked (hdr : List Sample) (p : Prof) (x : Sample) (gl : BitVec 32) (rest : List TaggedSample)
    (h : s.sync.mode = .locked) :
    consumeSample hdr p ⟨x, false, gl⟩ rest (syncBegin s) = lockedStep hdr p s.sync.pos (runTaken s x rest) :=
  sampleStep_locked (r := { syncBegin s with st := { s with mfq := rest }, consumed := 1 }) h

end

theorem syncValue_searchStep (hdr : List Sample) (p : Prof) (e : Nat) (s : State) (x : Sample) (rest : List TaggedSample) :
    syncValue (searchStep hdr p e (runTaken s x rest)) =
      if (searchStep hdr p e (runTaken s x rest)).locked then 0x40001 else 1 := by
  obtain h | ⟨y, -, -, -, h⟩ := searchStep_cases hdr p e (runTaken s x rest)
  · rw [h]
    exact syncValue_taken _
  · rw [h]
    exact syncValue_locked _

/-- Settles O47: the guard, the threshold and the best candidate of the search, the sums of the correlation, and SYNC 1. -/
theorem searchAcquires : Obligations.SearchAcquires := by
  refine ⟨fun hdr p e r => ⟨searchStep_tooEarly, fun hguard hsps => ⟨searchStep_noPeak, fun hpeak => ?locks⟩⟩,
    correlate_eq_sum, fun s p x gl rest hp hmode hq => ?one⟩
  case locks =>
    obtain ⟨d, hbest, hlock⟩ := searchStep_locks hguard hsps hpeak
    exact ⟨d, hbest.lt, hbest.largest, hbest.first, hlock⟩
  case one =>
    refine ⟨searchStep (profHeader s.rom p) p s.sync.pos (runTaken s x rest), rfl, ?_⟩
    exact exec_sync_one hp hq (consumeSample_searching _ p x gl rest hmode) (syncValue_searchStep ..)

/-! ### A gap (R332) -/

theorem searching_beq_locked : (SyncMode.searching == SyncMode.locked) = false := rfl

theorem gapAction_eq (p : Prof) (r : SyncRun) : gapAction p r = { r with
    dropped := r.dropped || r.st.sync.mode == .locked
    st := { r.st with
      cntDropped := if r.st.sync.mode = .locked then satInc r.st.cntDropped else r.st.cntDropped
      event := if r.st.sync.mode = .locked then r.st.event ||| 0x200 else r.st.event
      sync := SyncState.cleared (winLength r.st.rom p.sps) r.st.sync.pos } } := by
  unfold gapAction
  cases hmode : r.st.sync.mode with
  | locked =>
    have hlocked : (SyncMode.locked == SyncMode.locked) = true := rfl
    rw [if_pos rfl, if_pos rfl, hlocked, Bool.or_true]
    rfl
  | searching =>
    rw [if_neg SyncMode.noConfusion, if_neg SyncMode.noConfusion, searching_beq_locked, Bool.or_false]
    rfl

theorem correlate_of_zero {hdr win : List Sample} {sps off : Nat}
    (h : ∀ k, k < hdr.length → win.getD (off - k * sps) .zero = .zero) : correlate hdr win sps off = ⟨0, 0⟩ := by
  have hzero : Sample.zero.re.toInt = 0 ∧ Sample.zero.im.toInt = 0 := by decide
  rw [correlate_eq_sum, List.sum_eq_zero, List.sum_eq_zero]
  · simp only [List.forall_mem_map, List.mem_range]
    intro k hk
    rw [h k hk, hzero.1, hzero.2, mul_zero, mul_zero, sub_zero]
  · simp only [List.forall_mem_map, List.mem_range]
    intro k hk
    rw [h k hk, hzero.1, hzero.2, mul_zero, mul_zero, add_zero]

/-- The first sample of a new search, with zeros before it, does not lock: the first candidate's header stands on zeros alone. -/
theorem searchStep_first {hdr : List Sample} {p : Prof} (e : Nat) {r : SyncRun} {x : Sample} {m : Nat}
    (hhdr : hdr.length = r.st.rom.hdrLen) (hsps : 2 ≤ p.sps) (hwin : r.st.sync.win = x :: List.replicate m .zero) :
    searchStep hdr p e r = r := by
  refine searchStep_noPeak ?_
  rw [correlate_of_zero, show normSq ⟨0, 0⟩ = 0 from rfl, Int.zero_shiftRight]
  · exact Int.natCast_nonneg _
  · intro k hk
    have hle : (k + 1) * p.sps ≤ r.st.rom.hdrLen * p.sps := Nat.mul_le_mul_right _ (hhdr ▸ hk)
    rw [Nat.succ_mul] at hle
    obtain ⟨j, hj⟩ : ∃ j, r.st.rom.hdrLen * p.sps - 1 - k * p.sps = j + 1 :=
      ⟨r.st.rom.hdrLen * p.sps - 1 - k * p.sps - 1, by omega⟩
    rw [hj, hwin, List.getD_cons_succ, List.getD_eq_getElem?_getD, List.getElem?_getD_replicate_default_eq]

/-- A synchronizer that is reset, but for `POS`, takes its first sample and does not lock on it. -/
theorem sampleStep_first {hdr : List Sample} {p : Prof} (x : Sample) {r : SyncRun} {m : Nat} (hhdr : hdr.length = r.st.rom.hdrLen)
    (hsps : 2 ≤ p.sps) (hsync : r.st.sync = SyncState.cleared m r.st.sync.pos) :
    sampleStep hdr p x r = modifySync (windowIn x) r := by
  have hwin : (windowIn x r.st.sync).win = x :: List.replicate (m - 1) .zero := by
    rw [hsync]
    exact congrArg (x :: ·) List.dropLast_replicate
  rw [sampleStep_searching (by rw [hsync]; rfl)]
  exact searchStep_first _ hhdr hsps hwin

theorem consumeSample_gap {p : Prof} {x : TaggedSample} {rest : List TaggedSample} {r : SyncRun} (hsps : 2 ≤ p.sps)
    (hgap : x.gap = true) : consumeSample (profHeader r.st.rom p) p x rest r = { r with
      consumed := r.consumed + 1
      dropped := r.dropped || r.st.sync.mode == .locked
      st := { r.st with
        mfq := rest
        cntDropped := if r.st.sync.mode = .locked then satInc r.st.cntDropped else r.st.cntDropped
        event := if r.st.sync.mode = .locked then r.st.event ||| 0x200 else r.st.event
        sync := { SyncState.cleared 0 (r.st.sync.pos + 1) with
          win := x.sample :: List.replicate ((r.st.rom.hdrLen + 1) * p.sps - 1) Sample.zero } } } := by
  have hwin : (List.replicate ((r.st.rom.hdrLen + 1) * p.sps) Sample.zero).dropLast =
      List.replicate ((r.st.rom.hdrLen + 1) * p.sps - 1) Sample.zero := List.dropLast_replicate ..
  rw [consumeSample, if_pos hgap, gapAction_eq, ← hwin]
  exact sampleStep_first x.sample (profHeader_length ..) hsps rfl

/-- Settles O49: the reset of a gap, with the dropped frame where it was LOCKED, and the first sample of the new search. -/
theorem gapRestartsSearch : Obligations.GapRestartsSearch := by
  refine ⟨fun p x rest r hsps hgap => consumeSample_gap hsps hgap, fun s p x gl rest hp hsps hq => ?one⟩
  case one =>
    refine exec_sync_one hp hq (consumeSample_gap (r := syncBegin s) hsps rfl) ?_
    cases hmode : s.sync.mode with
    | locked => simp [syncBegin, hmode, syncValue_dropped]
    | searching => simp [syncBegin, hmode, searching_beq_locked, syncValue_taken]

/-! ### SYNC 1 in LOCKED (R323, R328) -/

/-- Settles O60: the locked step by its cases, one for each kind of symbol and its place in the block and the frame. -/
theorem lockedTakesSymbols : Obligations.LockedTakesSymbols := by
  intro s p x gl rest hp hmode hq y w interp zd kd moved taken known closed instant
  have hone : ∀ {r v}, lockedStep (profHeader s.rom p) p s.sync.pos (runTaken s x rest) = r → syncValue r = v →
      exec (.sync 1) s = .next { r.st with rsp := s.rsp ++ [⟨0x00, v⟩] } :=
    fun hr hv => exec_sync_one hp hq ((consumeSample_locked _ p x gl rest hmode).trans hr) hv
  refine ⟨fun haway => hone (lockedStep_away haway) (syncValue_taken _), fun hinst hdata => ?data, fun ref hinst href => ?known⟩
  case data =>
    have hstep := lockedStep_data (hdr := profHeader s.rom p) (r := runTaken s x rest) hinst hdata
    refine ⟨fun hk => ?inFrame, fun hk hrb4 => ?delivered, fun f hk hrb4 => ?dropped⟩
    case inFrame => exact hone (hstep.trans (if_neg hk)) (syncValue_taken _)
    case delivered =>
      have hclose := frameClose_of_empty (p := p) (r := modifySync (dataTaken s.rom) (runTaken s x rest)) hrb4
      have hanswer := hone ((hstep.trans (if_pos hk)).trans hclose) (syncValue_delivered _)
      exact hanswer
    case dropped =>
      have hclose := (frameCommitsEstimates.2 p (modifySync (dataTaken s.rom) (runTaken s x rest)) _ rfl).2 f hrb4
      have hanswer := hone ((hstep.trans (if_pos hk)).trans hclose) (syncValue_dropped _)
      exact hanswer
  case known =>
    refine ⟨fun hk hnext => ?inBlock, fun hlast => ⟨_, _, rfl, rfl, ?blockEnd⟩⟩
    case inBlock =>
      exact hone (lockedStep_known_inBlock (r := runTaken s x rest) hinst href hk hnext) (syncValue_taken _)
    case blockEnd =>
      exact hone (lockedStep_known_blockEnd (r := runTaken s x rest) hinst href hlast rfl) rfl

end Sys2Proof.Machine
end

section
/-! PROOFS of the family 47_synchronizer.md, the invariants of R342: what a sample taken in SEARCHING and in LOCKED keeps of them,
then a SYNC, then every step. -/

namespace Sys2Proof.Machine

open Sys2Proof.Safety

/-! ### The invariants as propositions (R342) -/

/-- What a sound profile and sound loops give the synchronizer. -/
structure SyncLimits (rom : Rom) (p : Prof) : Prop where
  loops : loopsSound rom = true
  sps_ge : 2 ≤ p.sps
  hdrLen_lt : rom.hdrLen < p.lpl
  miss_pos : 1 ≤ p.miss
  miss_le : p.miss ≤ 65535

/-- A frame has symbols after its header. -/
theorem ProfileSizes.hdrLen_lt_lpl {rom : Rom} {p : Prof} (h : ProfileSizes rom p) : rom.hdrLen < p.lpl := by
  have hnsym : 0 < nsymOf p.row := by
    refine Nat.div_pos_iff.2 ⟨Nat.pos_of_ne_zero fun heta => ?_, Nat.le_of_dvd ?_ (Nat.dvd_of_mod_eq_zero h.nldpc_mod)⟩
    · have hmod := h.nldpc_mod
      have hlt := h.kldpc_lt
      rw [heta, Nat.mod_zero] at hmod
      omega
    · have hlt := h.kldpc_lt
      omega
  have hslots : slotsOf rom p.row * rom.slotLen = nsymOf p.row := Nat.div_mul_cancel (Nat.dvd_of_mod_eq_zero h.nsym_mod)
  rw [h.lpl_eq, plLength, hslots]
  omega

theorem syncLimits_of_sound {rom : Rom} {p : Prof} (hrom : loopsSound rom = true) (h : profileSound rom p = true) :
    SyncLimits rom p := by
  have sizes := profileSizes_of_sound h
  simp only [profileSound, Bool.and_eq_true, decide_eq_true_eq, beq_iff_eq, and_assoc] at h
  obtain ⟨-, -, -, -, -, -, -, -, -, -, -, -, -, -, -, -, -, hmiss, hmiss', -⟩ := h
  exact ⟨hrom, sizes.sps_ge, sizes.hdrLen_lt_lpl, hmiss, hmiss'⟩

/-- The invariants in LOCKED, with `K` = L_PL still open to a frame that is about to be closed, and the symbol instant at least
`slack` samples further than R342 (3) asks. -/
structure LockedFit (rom : Rom) (p : Prof) (slack : Nat) (y : SyncState) : Prop where
  mode : y.mode = .locked
  k_le : y.k ≤ p.lpl
  acc : y.acc.length = dataBefore rom p y.k
  pos_le : (y.pos : Int) + slack ≤ y.next + ((y.k * p.sps + 1 : Nat) : Int)
  timing_ge : -16384 ≤ y.wTiming.toInt
  timing_le : y.wTiming.toInt ≤ 16384
  miss_lt : y.miss.toNat < p.miss

/-- The synchronization state of R342, in SEARCHING or in LOCKED. -/
def SyncOk (rom : Rom) (p : Prof) (y : SyncState) : Prop :=
  (y.mode = .searching ∧ searchingClear y = true) ∨ (y.k < p.lpl ∧ LockedFit rom p 0 y)

theorem syncSound_active {s : State} {p : Prof} (hp : s.session = .active p) :
    syncSound s = true ↔ SyncOk s.rom p s.sync := by
  cases hmode : s.sync.mode with
  | searching =>
    simp only [syncSound, hp, hmode, SyncOk, true_and]
    exact ⟨.inl, fun h => h.resolve_right fun ⟨_, hfit⟩ => absurd (hmode.symm.trans hfit.mode) nofun⟩
  | locked =>
    simp only [syncSound, hp, hmode, SyncOk, reduceCtorEq, false_and, false_or, lockedSound, Bool.and_eq_true,
      decide_eq_true_eq, beq_iff_eq, and_assoc]
    refine ⟨fun ⟨hk, hacc, hpos, hge, hle, hmiss⟩ => ⟨hk, hmode, hk.le, hacc, ?_, hge, hle, hmiss⟩,
      fun ⟨hk, hfit⟩ => ⟨hk, hfit.acc, ?_, hfit.timing_ge, hfit.timing_le, hfit.miss_lt⟩⟩
    · simpa using hpos
    · simpa using hfit.pos_le

theorem syncOk_cleared (rom : Rom) (p : Prof) (winLen pos : Nat) : SyncOk rom p (SyncState.cleared winLen pos) :=
  .inl ⟨rfl, beq_self_eq_true _⟩

theorem searchingClear_windowIn {y : SyncState} (x : Sample) (h : searchingClear y = true) :
    searchingClear (windowIn x y) = true := by
  have hclear := beq_iff_eq.1 h
  refine beq_iff_eq.2 ?_
  unfold windowIn
  rw [hclear]
  rfl

/-- A symbol that is no data symbol is known. -/
theorem exists_isReference (rom : Rom) (hdr : List Sample) {kd : SymbolKind} (h : isData kd = false) :
    ∃ ref, IsReference rom hdr kd ref := by
  cases kd with
  | data n => contradiction
  | header n => exact ⟨_, .inl ⟨n, rfl, rfl⟩⟩
  | pilot b n => exact ⟨_, .inr ⟨b, n, rfl, rfl⟩⟩

/-! ### What a symbol and the end of its block keep (R323, R324) -/

section
variable {rom : Rom} {p : Prof} {y : SyncState}

theorem LockedFit.less_slack {slack : Nat} (h : LockedFit rom p slack y) : LockedFit rom p 0 y :=
  { h with pos_le := by have := h.pos_le; omega }

/-- At the symbol instant, `POS` has just passed it; the next instant is sps samples on. -/
theorem next_instant_le (hsps : 2 ≤ p.sps)
    (hinst : (y.pos : Int) = y.next + ((y.k * p.sps + 1 : Nat) : Int)) :
    ((y.pos + 1 : Nat) : Int) + (1 : Nat) ≤ y.next + (((y.k + 1) * p.sps + 1 : Nat) : Int) := by
  rw [Nat.succ_mul]
  omega

theorem LockedFit.keeps_dataTaken (h : LockedFit rom p 0 y) (hsps : 2 ≤ p.sps) (hk : y.k < p.lpl) (x : Sample)
    (hinst : (y.pos : Int) = y.next + ((y.k * p.sps + 1 : Nat) : Int)) (hdata : isData (symbolKind rom p y.k) = true) :
    LockedFit rom p 1 (dataTaken rom (windowIn x y)) where
  mode := h.mode
  k_le := hk
  acc := by
    have hacc := h.acc
    simp only [dataTaken, advanceSymbol, windowIn, dataBefore_succ, hdata, if_true, List.length_append, List.length_singleton]
    omega
  pos_le := next_instant_le hsps hinst
  timing_ge := h.timing_ge
  timing_le := h.timing_le
  miss_lt := h.miss_lt

theorem LockedFit.keeps_knownTaken (h : LockedFit rom p 0 y) (hsps : 2 ≤ p.sps) (hk : y.k < p.lpl) (x ref : Sample)
    (hinst : (y.pos : Int) = y.next + ((y.k * p.sps + 1 : Nat) : Int)) (hknown : isData (symbolKind rom p y.k) = false) :
    LockedFit rom p 1 (knownTaken rom ref (windowIn x y)) where
  mode := h.mode
  k_le := hk
  acc := by
    have hacc := h.acc
    simp only [knownTaken, accumulateKnown, advanceSymbol, windowIn, dataBefore_succ, hknown, Bool.false_eq_true, if_false]
    exact hacc
  pos_le := next_instant_le hsps hinst
  timing_ge := h.timing_ge
  timing_le := h.timing_le
  miss_lt := h.miss_lt

theorem LockedFit.keeps_takeSymbol (h : LockedFit rom p 0 y) (hsps : 2 ≤ p.sps) (hk : y.k < p.lpl) (hdr : List Sample)
    (x : Sample) (hinst : (y.pos : Int) = y.next + ((y.k * p.sps + 1 : Nat) : Int)) :
    LockedFit rom p 1 (takeSymbol rom hdr p (windowIn x y)) := by
  cases hkind : isData (symbolKind rom p y.k) with
  | true =>
    rw [takeSymbol_data (y := windowIn x y) hkind]
    exact h.keeps_dataTaken hsps hk x hinst hkind
  | false =>
    obtain ⟨ref, href⟩ := exists_isReference rom hdr hkind
    rw [takeSymbol_known (y := windowIn x y) href]
    exact h.keeps_knownTaken hsps hk x ref hinst hkind

/-- The loops bring `W_TIMING` back into its range, and a slip moves `NEXT` by no more than the slack. -/
theorem LockedFit.keeps_loopsUpdated (h : LockedFit rom p 1 y) {t : Int} (hlo : -49152 ≤ t) (hhi : t ≤ 49152) :
    LockedFit rom p 0 (loopsUpdated rom p t y) := by
  have hpos := h.pos_le
  have hslip := slip_spec hlo hhi
  exact { h with
    pos_le := by dsimp only [loopsUpdated]; omega
    timing_ge := by dsimp only [loopsUpdated]; omega
    timing_le := by dsimp only [loopsUpdated]; omega }

end

/-- What a SYNC in progress keeps of R342. -/
structure RunOk (rom : Rom) (p : Prof) (r : SyncRun) : Prop where
  rom_eq : r.st.rom = rom
  sync : SyncOk rom p r.st.sync

section
variable {rom : Rom} {p : Prof} {hdr : List Sample} {r : SyncRun}

/-- The end of a known block is a loss, or keeps the invariants with the slack used up. -/
theorem blockEnd_keeps_lockedFit (lim : SyncLimits rom p) (kd : SymbolKind) (hrom : r.st.rom = rom)
    (h : LockedFit rom p 1 r.st.sync) :
    blockEnd p kd r = (syncLoss p r, true) ∨
      ∃ y, LockedFit rom p 0 y ∧ y.k = r.st.sync.k ∧ blockEnd p kd r = (modifySync (fun _ => y) r, false) := by
  cases kd with
  | data n => exact .inr ⟨_, h.less_slack, rfl, rfl⟩
  | pilot b n =>
    have htiming := h.timing_ge
    have htiming' := h.timing_le
    exact .inr ⟨_, h.keeps_loopsUpdated (t := r.st.sync.wTiming.toInt) (by omega) (by omega), rfl, hrom ▸ blockEnd_pilot b n⟩
  | header n =>
    by_cases hbelow : normSq r.st.sync.cAcc >>> p.tshift < (p.thresh : Int)
    · by_cases hmiss : p.miss ≤ r.st.sync.miss.toNat + 1
      · exact .inl (headerEnd_loss hbelow hmiss)
      · have hadd : (r.st.sync.miss + 1).toNat = r.st.sync.miss.toNat + 1 := by
          have hle := lim.miss_le
          have hone : (1 : BitVec 16).toNat = 1 := rfl
          rw [BitVec.toNat_add_of_lt (by omega), hone]
        refine .inr ⟨clearAccumulators { r.st.sync with miss := r.st.sync.miss + 1 }, ?_, rfl,
          headerEnd_miss hbelow (not_le.1 hmiss)⟩
        exact { h.less_slack with miss_lt := by dsimp only [clearAccumulators]; omega }
    · have hbounds := romTloop_bounds (g := p.tloop) (c := r.st.sync.cAcc) (e := r.st.sync.eAcc) (l := r.st.sync.lAcc)
        lim.loops h.timing_ge h.timing_le
      have hpass : LockedFit rom p 1 { r.st.sync with miss := 0 } := { h with miss_lt := lim.miss_pos }
      exact .inr ⟨_, hpass.keeps_loopsUpdated hbounds.1 hbounds.2, rfl, hrom ▸ headerEnd_passes (not_lt.1 hbelow)⟩

theorem runOk_syncLoss (hrom : r.st.rom = rom) : RunOk rom p (syncLoss p r) := ⟨hrom, syncOk_cleared ..⟩

/-- Closing a frame moves the boundary to the instant it stands at. -/
theorem runOk_frameClose (lim : SyncLimits rom p) (hrom : r.st.rom = rom) (h : LockedFit rom p 0 r.st.sync)
    (hk : r.st.sync.k = p.lpl) : RunOk rom p (frameClose p r) := by
  have hclosed : SyncOk rom p (commitEstimates
      { r.st.sync with acc := [], next := r.st.sync.next + ((p.lpl * p.sps : Nat) : Int), k := 0 }) := by
    have hpos := h.pos_le
    have hlpl := lim.hdrLen_lt
    rw [hk] at hpos
    refine .inr ⟨by dsimp only [commitEstimates]; omega, { h with k_le := Nat.zero_le _, acc := rfl, pos_le := ?_ }⟩
    simp only [commitEstimates, Nat.zero_mul]
    omega
  cases hrb4 : r.st.rb4 with
  | none => rw [frameClose_of_empty hrb4]; exact ⟨hrom, hclosed⟩
  | some f => rw [frameClose_of_full hrb4]; exact ⟨hrom, hclosed⟩

/-- After a symbol: the frame is closed where it is complete. -/
theorem runOk_closeOrGo (lim : SyncLimits rom p) (hrom : r.st.rom = rom) (h : LockedFit rom p 0 r.st.sync) :
    RunOk rom p (if r.st.sync.k = p.lpl then frameClose p r else r) := by
  split
  · next hk => exact runOk_frameClose lim hrom h hk
  · next hk => exact ⟨hrom, .inr ⟨lt_of_le_of_ne h.k_le hk, h⟩⟩

theorem afterSymbol_runOk (lim : SyncLimits rom p) (atEnd : Bool) (kd : SymbolKind) (hrom : r.st.rom = rom)
    (h : LockedFit rom p 1 r.st.sync) : RunOk rom p (afterSymbol atEnd p kd r) := by
  cases atEnd with
  | false => exact runOk_closeOrGo lim hrom h.less_slack
  | true =>
    rw [afterSymbol_blockEnd]
    obtain hloss | ⟨y, hfit, hk, hend⟩ := blockEnd_keeps_lockedFit lim kd hrom h
    · simp only [hloss, Bool.true_eq_false, and_false, if_false]
      exact runOk_syncLoss hrom
    · simp only [hend, and_true, ← hk]
      exact runOk_closeOrGo (r := modifySync (fun _ => y) r) lim hrom hfit

/-! ### What a sample keeps -/

theorem lockedStep_runOk (lim : SyncLimits rom p) (x : Sample) (hrom : r.st.rom = rom) (hk : r.st.sync.k < p.lpl)
    (h : LockedFit rom p 0 r.st.sync) : RunOk rom p (lockedStep hdr p r.st.sync.pos (modifySync (windowIn x) r)) := by
  obtain rfl := hrom
  by_cases hinst : (r.st.sync.pos : Int) = r.st.sync.next + ((r.st.sync.k * p.sps + 1 : Nat) : Int)
  · rw [lockedStep_instant (r := modifySync (windowIn x) r) hinst]
    exact afterSymbol_runOk lim _ _ rfl (h.keeps_takeSymbol lim.sps_ge hk hdr x hinst)
  · rw [lockedStep_away (r := modifySync (windowIn x) r) hinst]
    have hpos := h.pos_le
    exact ⟨rfl, .inr ⟨hk, { h with pos_le := by simp only [modifySync, withSync, windowIn]; omega }⟩⟩

theorem searchStep_runOk (lim : SyncLimits rom p) (x : Sample) (hrom : r.st.rom = rom) (h : searchingClear r.st.sync = true)
    (hmode : r.st.sync.mode = .searching) : RunOk rom p (searchStep hdr p r.st.sync.pos (modifySync (windowIn x) r)) := by
  obtain rfl := hrom
  have hstay : RunOk r.st.rom p (modifySync (windowIn x) r) := ⟨rfl, .inl ⟨hmode, searchingClear_windowIn x h⟩⟩
  obtain hearly | hguard := lt_or_ge (r.st.sync.pos + 1) (r.st.rom.hdrLen * p.sps)
  · rw [searchStep_tooEarly (r := modifySync (windowIn x) r) hearly]
    exact hstay
  obtain hnone | hpeak := le_or_gt (normSq (correlate hdr (modifySync (windowIn x) r).st.sync.win p.sps
    (r.st.rom.hdrLen * p.sps - 1)) >>> p.tshift) (p.thresh : Int)
  · rw [searchStep_noPeak (r := modifySync (windowIn x) r) hnone]
    exact hstay
  · have hsps := lim.sps_ge
    obtain ⟨d, hbest, hlock⟩ := searchStep_locks (r := modifySync (windowIn x) r) hguard (by omega) hpeak
    rw [hlock]
    refine ⟨rfl, .inr ⟨lim.hdrLen_lt, ⟨rfl, lim.hdrLen_lt.le, (dataBefore_header r.st.rom p).symm, ?_,
      (by decide : -16384 ≤ (0 : BitVec 16).toInt), (by decide : (0 : BitVec 16).toInt ≤ 16384), lim.miss_pos⟩⟩⟩
    simp only [modifySync, withSync, windowIn]
    omega

theorem sampleStep_runOk (lim : SyncLimits rom p) (x : Sample) (h : RunOk rom p r) : RunOk rom p (sampleStep hdr p x r) := by
  obtain ⟨hmode, hclear⟩ | ⟨hk, hfit⟩ := h.sync
  · rw [sampleStep_searching hmode]
    exact searchStep_runOk lim x h.rom_eq hclear hmode
  · rw [sampleStep_locked hfit.mode]
    exact lockedStep_runOk lim x h.rom_eq hk hfit

theorem consumeSample_runOk (lim : SyncLimits rom p) (x : TaggedSample) (rest : List TaggedSample) (h : RunOk rom p r) :
    RunOk rom p (consumeSample hdr p x rest r) := by
  unfold consumeSample
  cases x.gap with
  | true =>
    refine sampleStep_runOk lim x.sample ?_
    rw [if_pos rfl, gapAction_eq]
    exact ⟨h.rom_eq, syncOk_cleared ..⟩
  | false => exact sampleStep_runOk lim x.sample ⟨h.rom_eq, h.sync⟩

end

theorem syncLoop_runOk {rom : Rom} {p : Prof} (lim : SyncLimits rom p) (hdr : List Sample) (n : Nat) {s : State}
    (h : RunOk rom p (syncBegin s)) : RunOk rom p (syncLoop hdr p n (syncBegin s)) :=
  syncLoop_keeps (J := RunOk rom p) (fun _ x rest hr _ _ => consumeSample_runOk lim x rest hr) n h rfl

/-! ### What every step keeps -/

theorem Effect.keeps_syncSound {s t : State} {i : Instr} (h : Effect s i t) (hrom : loopsSound s.rom = true)
    (hs : sessionSound s = true) (hsync : syncSound s = true) : syncSound t = true := by
  cases h with
  | reset | stop => rfl
  | start _ _ => exact (syncSound_active rfl).2 (syncOk_cleared ..)
  | @sync p n hp _ =>
    have lim := syncLimits_of_sound hrom ((sessionSound_active hp).1 hs).1
    have hrun := syncLoop_runOk lim (profHeader s.rom p) n.toNat ⟨rfl, (syncSound_active hp).1 hsync⟩
    refine (syncSound_active ((syncLoop_change ..).session.trans hp)).2 ?_
    rw [hrun.rom_eq]
    exact hrun.sync
  | _ => exact hsync

theorem AgentEffect.keeps_syncSound {s t : State} {a : AgentStep} (h : AgentEffect s a t) (hrom : loopsSound s.rom = true)
    (hs : sessionSound s = true) (hsync : syncSound s = true) : syncSound t = true := by
  cases h with
  | command _ heffect => exact heffect.keeps_syncSound hrom hs hsync
  | stopSignal | hardwareReset => rfl
  | _ => exact hsync

/-- Settles O58: SYNC by its loop invariant, a sample in SEARCHING and in LOCKED, with one sample of slack at every symbol for a
slip of the timing loop; START begins in SEARCHING, and no other step touches the synchronizer. -/
theorem stepKeepsSynchronizer : Obligations.StepKeepsSynchronizer := by
  intro s hrom hs hsync
  obtain ⟨t, hstep, -, -, htsync⟩ := step_keeps
    (I := fun s => loopsSound s.rom = true ∧ sessionSound s = true ∧ syncSound s = true) (fun _ _ h => h)
    (fun _ _ _ ⟨hrom, hs, hsync⟩ heffect =>
      ⟨heffect.rom ▸ hrom, heffect.keeps_sessionSound hs, heffect.keeps_syncSound hrom hs hsync⟩) ⟨hrom, hs, hsync⟩
  exact ⟨t, hstep, htsync⟩

end Sys2Proof.Machine
end

section
/-! PROOFS of the family 47_synchronizer.md, a SYNC in two parts (R318): no operation of SYNC reads the response records, the count of
samples or the flags LOST, LOCKED and DROPPED, so the second part goes on where the first ended. -/

namespace Sys2Proof.Machine

open Sys2Proof.Safety

/-! ### No operation of SYNC reads the responses, the count or the flags LOST, LOCKED and DROPPED -/

/-- The run `r` with the responses, the count and the flags LOST, LOCKED and DROPPED of the run `o`. -/
def retell (o r : SyncRun) : SyncRun := { o with st := { r.st with rsp := o.st.rsp }, frame := r.frame }

/-- The operation `f` of SYNC does the same to a run whose responses, count and flags are others; `o'` has those after it. -/
def Oblivious (f : SyncRun → SyncRun) : Prop := ∀ o r, ∃ o', f (retell o r) = retell o' (f r)

theorem retell_ite {q : Prop} [Decidable q] {x x' y y' : SyncRun} (hx : ∃ o, x' = retell o x) (hy : ∃ o, y' = retell o y) :
    ∃ o, (if q then x' else y') = retell o (if q then x else y) := by
  by_cases hq : q
  · rw [if_pos hq, if_pos hq]; exact hx
  · rw [if_neg hq, if_neg hq]; exact hy

theorem Oblivious.comp {f g : SyncRun → SyncRun} (hf : Oblivious f) (hg : Oblivious g) : Oblivious (f ∘ g) := by
  intro o r
  obtain ⟨o', h'⟩ := hg o r
  obtain ⟨o'', h''⟩ := hf o' (g r)
  exact ⟨o'', (congrArg f h').trans h''⟩

theorem gapAction_oblivious (p : Prof) : Oblivious (gapAction p) := by
  intro o r
  rw [gapAction_eq, gapAction_eq]
  exact ⟨{ o with dropped := o.dropped || r.st.sync.mode == .locked }, rfl⟩

theorem searchStep_oblivious (hdr : List Sample) (p : Prof) (e : Nat) : Oblivious (searchStep hdr p e) :=
  fun o _ => retell_ite ⟨o, rfl⟩ (retell_ite ⟨{ o with locked := true }, rfl⟩ ⟨o, rfl⟩)

theorem frameClose_oblivious (p : Prof) : Oblivious (frameClose p) := by
  intro o r
  cases h : r.st.rb4 with
  | none =>
    rw [frameClose_of_empty h, frameClose_of_empty (r := retell o r) h]
    exact ⟨o, rfl⟩
  | some f =>
    rw [frameClose_of_full h, frameClose_of_full (r := retell o r) h]
    exact ⟨{ o with dropped := true }, rfl⟩

theorem headerEnd_retell (p : Prof) (o r : SyncRun) :
    ∃ o', headerEnd p (retell o r) = (retell o' (headerEnd p r).1, (headerEnd p r).2) := by
  dsimp only [headerEnd, retell]
  split
  · split
    · exact ⟨{ o with lost := true }, rfl⟩
    · exact ⟨o, rfl⟩
  · exact ⟨o, rfl⟩

theorem blockEnd_retell (p : Prof) (kd : SymbolKind) (o r : SyncRun) :
    ∃ o', blockEnd p kd (retell o r) = (retell o' (blockEnd p kd r).1, (blockEnd p kd r).2) := by
  cases kd with
  | header n => exact headerEnd_retell p o r
  | data n => exact ⟨o, rfl⟩
  | pilot b n => exact ⟨o, rfl⟩

theorem afterSymbol_oblivious (atEnd : Bool) (p : Prof) (kd : SymbolKind) : Oblivious (afterSymbol atEnd p kd) := by
  intro o r
  cases atEnd with
  | false => exact retell_ite (frameClose_oblivious p o r) ⟨o, rfl⟩
  | true =>
    obtain ⟨o', hend⟩ := blockEnd_retell p kd o r
    rw [afterSymbol_blockEnd, afterSymbol_blockEnd, hend]
    exact retell_ite (frameClose_oblivious p o' _) ⟨o', rfl⟩

theorem lockedStep_oblivious (hdr : List Sample) (p : Prof) (e : Nat) : Oblivious (lockedStep hdr p e) := by
  intro o r
  rw [lockedStep_eq_afterSymbol, lockedStep_eq_afterSymbol]
  exact retell_ite ⟨o, rfl⟩ (afterSymbol_oblivious _ p _ o (modifySync (takeSymbol r.st.rom hdr p) r))

theorem sampleStep_oblivious (hdr : List Sample) (p : Prof) (x : Sample) : Oblivious (sampleStep hdr p x) := by
  intro o r
  cases hmode : r.st.sync.mode with
  | searching =>
    rw [sampleStep_searching hmode, sampleStep_searching (r := retell o r) hmode]
    exact searchStep_oblivious hdr p _ o (modifySync (windowIn x) r)
  | locked =>
    rw [sampleStep_locked hmode, sampleStep_locked (r := retell o r) hmode]
    exact lockedStep_oblivious hdr p _ o (modifySync (windowIn x) r)

theorem consumeSample_oblivious (hdr : List Sample) (p : Prof) (x : TaggedSample) (rest : List TaggedSample) :
    Oblivious (consumeSample hdr p x rest) := by
  have hsample := sampleStep_oblivious hdr p x.sample
  intro o r
  unfold consumeSample
  cases x.gap with
  | true =>
    exact hsample.comp (gapAction_oblivious p) { o with consumed := o.consumed + 1 }
      { r with st := { r.st with mfq := rest }, consumed := r.consumed + 1 }
  | false =>
    exact hsample { o with consumed := o.consumed + 1 } { r with st := { r.st with mfq := rest }, consumed := r.consumed + 1 }

theorem syncLoop_oblivious (hdr : List Sample) (p : Prof) (n : Nat) : Oblivious (syncLoop hdr p n) := by
  induction n with
  | zero => exact fun o r => ⟨o, rfl⟩
  | succ n ih =>
    intro o r
    cases hq : r.st.mfq with
    | nil => exact ⟨o, by rw [syncLoop_nil _ hq, syncLoop_nil (r := retell o r) _ hq]⟩
    | cons x rest =>
      obtain ⟨o', h⟩ := consumeSample_oblivious hdr p x rest o r
      rw [syncLoop_cons n hq, syncLoop_cons (r := retell o r) n hq, h]
      exact retell_ite ⟨o', rfl⟩ (ih o' _)

/-! ### A SYNC in two parts (R318) -/

theorem syncLoop_add (hdr : List Sample) (p : Prof) (m n : Nat) {r : SyncRun} (hframe : r.frame = false) :
    syncLoop hdr p (m + n) r =
      if (syncLoop hdr p m r).frame then syncLoop hdr p m r else syncLoop hdr p n (syncLoop hdr p m r) := by
  induction m generalizing r with
  | zero =>
    rw [Nat.zero_add, syncLoop, hframe]
    rfl
  | succ m ih =>
    rw [Nat.succ_add]
    cases hq : r.st.mfq with
    | nil => simp only [syncLoop_nil _ hq, ite_self]
    | cons x rest =>
      rw [syncLoop_cons _ hq, syncLoop_cons _ hq]
      cases hone : (consumeSample hdr p x rest r).frame with
      | true => simp only [if_true, hone]
      | false => simpa only [Bool.false_eq_true, if_false] using ih hone

theorem syncLoop_begin_consumed_lt (hdr : List Sample) (p : Prof) (n : BitVec 16) (s : State) :
    (syncLoop hdr p n.toNat (syncBegin s)).consumed < 65536 := by
  have hle := syncLoop_consumed_le hdr p n.toNat (syncBegin s)
  have hzero : (syncBegin s).consumed = 0 := rfl
  have hn := n.isLt
  omega

/-- Settles O45: the loop in two parts, the second of which does not see the response and the flags of the first. -/
theorem syncSplitting : Obligations.SyncSplitting := by
  intro s p n1 n2 n hp hn1 hn2 hsum
  have hn : n.toNat ≠ 0 := by omega
  generalize hr : syncLoop (profHeader s.rom p) p n1.toNat (syncBegin s) = r
  have hchange : SyncChange s r.st := hr ▸ syncLoop_change (profHeader s.rom p) p n1.toNat (syncBegin s)
  have hadd := syncLoop_add (profHeader s.rom p) p n1.toNat n2.toNat (r := syncBegin s) rfl
  rw [hsum, hr] at hadd
  have hflag : (syncValue r).getLsbD 16 = r.frame :=
    syncValue_frame (hr ▸ syncLoop_begin_consumed_lt (profHeader s.rom p) p n1 s)
  have hfirst := exec_sync hp hn1
  rw [hr] at hfirst
  refine ⟨_, syncValue r, hfirst, by rw [respond_rsp, hchange.rsp], fun hframe => ?delivered, fun hframe => ?goesOn⟩
  case delivered =>
    rw [exec_sync hp hn, hadd, ← hflag, hframe]
    rfl
  case goesOn =>
    have hnone : r.frame = false := hflag.symm.trans hframe
    generalize ht : respond 0x00 (syncValue r) r.st = t1
    have hp1 : t1.session = .active p := by rw [← ht, respond_session, hchange.session, hp]
    have hrom : t1.rom = s.rom := by rw [← ht, respond_rom, hchange]
    have hbegin : syncBegin t1 = retell (syncBegin t1) r := by rw [← ht, retell, hnone]; rfl
    obtain ⟨o, hrest⟩ := syncLoop_oblivious (profHeader s.rom p) p n2.toNat (syncBegin t1) r
    rw [← hbegin] at hrest
    refine ⟨_, _, exec_sync hp1 hn2, exec_sync hp hn, ?_⟩
    rw [hrom, hrest, hadd, hnone]
    rfl

end Sys2Proof.Machine
end

section
/-! PROOFS of the family 47_synchronizer.md, what a SYNC consumes and reports (R318, R330). -/

namespace Sys2Proof.Machine

open Sys2Proof.Safety

/-! ### The response value, bit by bit (R318) -/

section
variable {r : SyncRun} (hcount : r.consumed < 65536)
include hcount

/-- The bits of the response above the count of samples are the flags. -/
theorem syncValue_flag {i : Nat} (hi : 16 ≤ i) :
    (syncValue r).getLsbD i =
      ((decide (i = 16) && r.frame) || (decide (i = 17) && r.lost) || (decide (i = 18) && r.locked) ||
        (decide (i = 19) && r.dropped)) := by
  have hpow : 2 ^ 16 ≤ 2 ^ i := Nat.pow_le_pow_right (by decide) hi
  have hbelow : (BitVec.ofNat 32 r.consumed).getLsbD i = false := by
    rw [BitVec.getLsbD_ofNat, Nat.testBit_lt_two_pow (lt_of_lt_of_le hcount hpow), Bool.and_false]
  simp only [syncValue, BitVec.getLsbD_or, hbelow, flagAt_getLsbD, Nat.reduceLT, Bool.false_or, Bool.and_comm]

theorem syncValue_count : (syncValue r).toNat % 65536 = r.consumed := by
  have hflag : ∀ i ∈ [16, 17, 18, 19], ∀ f : Bool, (flagAt i f).setWidth 16 = 0 := by decide
  have hlow : (syncValue r).setWidth 16 = BitVec.ofNat 16 r.consumed := by
    simp [syncValue, BitVec.setWidth_or, hflag, BitVec.setWidth_ofNat_of_le]
  have h := congrArg BitVec.toNat hlow
  rwa [BitVec.toNat_setWidth, BitVec.toNat_ofNat, Nat.mod_eq_of_lt (a := r.consumed) hcount] at h

theorem syncValue_toNat_lt : (syncValue r).toNat < 2 ^ 20 := by
  have hflag : ∀ i ∈ [16, 17, 18, 19], ∀ f : Bool, (flagAt i f).toNat < 2 ^ 20 := by decide
  have hnat : (BitVec.ofNat 32 r.consumed).toNat < 2 ^ 20 := by rw [BitVec.toNat_ofNat]; omega
  simp only [syncValue, BitVec.toNat_or]
  exact Nat.or_lt_two_pow (Nat.or_lt_two_pow (Nat.or_lt_two_pow (Nat.or_lt_two_pow hnat (hflag 16 (by simp) _))
    (hflag 17 (by simp) _)) (hflag 18 (by simp) _)) (hflag 19 (by simp) _)

end

/-! ### Counters and events that go with a flag -/

/-- The counter `c` has become `c'`: at least one more where the flag is raised, unchanged where it is not. -/
structure Counted (flag : Bool) (c c' : BitVec 32) : Prop where
  raised : flag = true → min (c.toNat + 1) 0xFFFFFFFF ≤ c'.toNat
  kept : flag = false → c' = c

theorem counted_refl (c : BitVec 32) : Counted false c c := ⟨nofun, fun _ => rfl⟩

theorem Counted.satInc {flag : Bool} {c c' : BitVec 32} (h : Counted flag c c') : Counted true c (satInc c') := by
  refine ⟨fun _ => ?_, nofun⟩
  cases flag with
  | false => rw [h.kept rfl, satInc_toNat]
  | true => exact (h.raised rfl).trans (le_satInc c')

theorem withEvent_getLsbD_self (b : EventBit) (ev : BitVec 32) : (withEvent b ev).getLsbD (eventIndex b) = true := by
  have hmask : (eventMask b).getLsbD (eventIndex b) = true := by cases b <;> rfl
  rw [withEvent, BitVec.getLsbD_or, hmask, Bool.or_true]

theorem withEvent_getLsbD_of (b : EventBit) {ev : BitVec 32} {i : Nat} (h : ev.getLsbD i = true) :
    (withEvent b ev).getLsbD i = true := by rw [withEvent, BitVec.getLsbD_or, h, Bool.true_or]

/-- What a SYNC begun in the state `s` has consumed and reported so far, `r` being the run. -/
structure SyncReport (s : State) (r : SyncRun) : Prop where
  mfq : r.st.mfq = s.mfq.drop r.consumed
  count_le : r.consumed ≤ s.mfq.length
  frame : r.frame = (s.rb4.isNone && r.st.rb4.isSome)
  full : ∀ f, s.rb4 = some f → r.st.rb4 = some f
  lost : Counted r.lost s.cntSyncloss r.st.cntSyncloss
  lasterr : r.lost = false → r.st.lasterr = s.lasterr
  dropped : Counted r.dropped s.cntDropped r.st.cntDropped
  lostEvent : r.lost = true → r.st.event.getLsbD 2 = true
  lockedEvent : r.locked = true → r.st.event.getLsbD 7 = true
  droppedEvent : r.dropped = true → r.st.event.getLsbD 9 = true

theorem syncReport_begin (s : State) : SyncReport s (syncBegin s) where
  mfq := rfl
  count_le := Nat.zero_le _
  frame := by cases h : s.rb4 <;> simp [syncBegin, h]
  full _ h := h
  lost := counted_refl _
  lasterr _ := rfl
  dropped := counted_refl _
  lostEvent := nofun
  lockedEvent := nofun
  droppedEvent := nofun

section
variable {s : State} {r : SyncRun} {p : Prof} {hdr : List Sample}

namespace SyncReport

theorem keeps_modifySync (h : SyncReport s r) (f : SyncState → SyncState) : SyncReport s (modifySync f r) :=
  ⟨h.mfq, h.count_le, h.frame, h.full, h.lost, h.lasterr, h.dropped, h.lostEvent, h.lockedEvent, h.droppedEvent⟩

theorem keeps_take {x : TaggedSample} {rest : List TaggedSample} (h : SyncReport s r) (hq : r.st.mfq = x :: rest) :
    SyncReport s { r with st := { r.st with mfq := rest }, consumed := r.consumed + 1 } := by
  have hdrop := h.mfq.symm.trans hq
  have hlt : r.consumed < s.mfq.length := by
    by_contra hge
    rw [List.drop_eq_nil_of_le (not_lt.1 hge)] at hdrop
    contradiction
  exact { h with
    mfq := by rw [← List.drop_drop, hdrop]; rfl
    count_le := hlt }

/-- A frame is dropped and counted. -/
theorem keeps_drop (h : SyncReport s r) : SyncReport s { r with st := countDropped r.st, dropped := true } :=
  { h with
    dropped := h.dropped.satInc
    lostEvent := fun hflag => withEvent_getLsbD_of _ (h.lostEvent hflag)
    lockedEvent := fun hflag => withEvent_getLsbD_of _ (h.lockedEvent hflag)
    droppedEvent := fun _ => withEvent_getLsbD_self .dropped _ }

theorem keeps_raiseLoss (h : SyncReport s r) : SyncReport s { r with st := raiseExc .synchronizationLoss r.st, lost := true } :=
  { h with
    lost := h.lost.satInc
    lasterr := nofun
    lostEvent := fun _ => withEvent_getLsbD_self .syncloss _
    lockedEvent := fun hflag => withEvent_getLsbD_of _ (h.lockedEvent hflag)
    droppedEvent := fun hflag => withEvent_getLsbD_of _ (h.droppedEvent hflag) }

theorem keeps_gapAction (h : SyncReport s r) (p : Prof) : SyncReport s (gapAction p r) := by
  unfold gapAction
  split
  · exact h.keeps_drop.keeps_modifySync _
  · exact h.keeps_modifySync _

theorem keeps_searchStep (h : SyncReport s r) (hdr : List Sample) (p : Prof) (e : Nat) : SyncReport s (searchStep hdr p e r) := by
  obtain hsame | ⟨y, -, -, -, hlock⟩ := searchStep_cases hdr p e r
  · rw [hsame]
    exact h
  · rw [hlock]
    exact { h with
      lostEvent := fun hflag => withEvent_getLsbD_of _ (h.lostEvent hflag)
      lockedEvent := fun _ => withEvent_getLsbD_self .lock _
      droppedEvent := fun hflag => withEvent_getLsbD_of _ (h.droppedEvent hflag) }

/-- A frame goes into an EMPTY `RB4`, which was EMPTY when the SYNC began, or is dropped. -/
theorem keeps_frameClose (h : SyncReport s r) (p : Prof) : SyncReport s (frameClose p r) := by
  cases hrb4 : r.st.rb4 with
  | none =>
    have hempty : s.rb4 = none := Option.eq_none_iff_forall_ne_some.2 fun f hf => by
      rw [h.full f hf] at hrb4
      contradiction
    rw [frameClose_of_empty hrb4]
    exact { h with
      frame := by simp [hempty]
      full := fun f hf => absurd (hempty.symm.trans hf) nofun }
  | some f =>
    rw [frameClose_of_full hrb4]
    exact h.keeps_drop.keeps_modifySync (fun _ => commitEstimates
      { r.st.sync with acc := [], next := r.st.sync.next + ((p.lpl * p.sps : Nat) : Int), k := 0 })

theorem keeps_locked {r' : SyncRun} (h : SyncReport s r) (heffect : LockedEffect hdr p r r') : SyncReport s r' := by
  cases heffect with
  | wait => exact h
  | loss _ => exact (h.keeps_modifySync _).keeps_raiseLoss.keeps_modifySync _
  | symbol _ => exact h.keeps_modifySync _
  | close _ _ => exact (h.keeps_modifySync _).keeps_frameClose p

end SyncReport

end

theorem syncLoop_report (hdr : List Sample) (p : Prof) (n : Nat) (s : State) : SyncReport s (syncLoop hdr p n (syncBegin s)) := by
  refine syncLoop_keeps (J := SyncReport s) (fun r x rest h _ hq => ?sample) n (syncReport_begin s) rfl
  case sample =>
    exact consumeSample_keeps (I := SyncReport s) (fun r h => h.keeps_gapAction p) (fun r x h => h.keeps_modifySync _)
      (fun r e h => h.keeps_searchStep hdr p e) (fun r r' h _ heffect => h.keeps_locked heffect) (h.keeps_take hq)

/-- A SYNC stops after its count of samples, at an empty `MFQ`, or at a frame. -/
theorem syncLoop_stops (hdr : List Sample) (p : Prof) (n : Nat) (r : SyncRun) :
    (syncLoop hdr p n r).consumed = r.consumed + n ∨ (syncLoop hdr p n r).st.mfq = [] ∨ (syncLoop hdr p n r).frame = true := by
  induction n generalizing r with
  | zero => exact .inl rfl
  | succ n ih =>
    cases hq : r.st.mfq with
    | nil => rw [syncLoop_nil _ hq]; exact .inr (.inl hq)
    | cons x rest =>
      rw [syncLoop_cons n hq]
      split
      · next hframe => exact .inr (.inr hframe)
      · have hone := consumeSample_consumed hdr p x rest r
        have hrest := ih (consumeSample hdr p x rest r)
        rwa [hone, Nat.add_right_comm, Nat.add_assoc] at hrest

/-- Settles O44: the loop's report, read off the bits of the response. -/
theorem syncConsumes : Obligations.SyncConsumes := by
  intro s p n hp hn
  have hexec := exec_sync hp hn
  have hcount := syncLoop_begin_consumed_lt (profHeader s.rom p) p n s
  have hreport := syncLoop_report (profHeader s.rom p) p n.toNat s
  have hstops := syncLoop_stops (profHeader s.rom p) p n.toNat (syncBegin s)
  have hle := syncLoop_consumed_le (profHeader s.rom p) p n.toNat (syncBegin s)
  have hchange : SyncChange s _ := syncLoop_change (profHeader s.rom p) p n.toNat (syncBegin s)
  have hempty : s.mfq = [] → syncLoop (profHeader s.rom p) p n.toNat (syncBegin s) = syncBegin s :=
    fun hq => syncLoop_nil (r := syncBegin s) _ hq
  have hzero : (syncBegin s).consumed = 0 := rfl
  rw [hzero, Nat.zero_add] at hstops hle
  generalize syncLoop (profHeader s.rom p) p n.toNat (syncBegin s) = r at *
  have hframe : (syncValue r).getLsbD 16 = r.frame := (syncValue_flag hcount (by decide)).trans (by simp)
  have hlost : (syncValue r).getLsbD 17 = r.lost := (syncValue_flag hcount (by decide)).trans (by simp)
  have hlocked : (syncValue r).getLsbD 18 = r.locked := (syncValue_flag hcount (by decide)).trans (by simp)
  have hdropped : (syncValue r).getLsbD 19 = r.dropped := (syncValue_flag hcount (by decide)).trans (by simp)
  refine ⟨_, syncValue r, hexec, ?_⟩
  rw [syncValue_count hcount, hframe, hlost, hlocked, hdropped]
  refine ⟨?frame, syncValue_toNat_lt hcount, hle, hreport.count_le, hstops, hreport.frame, hreport.full,
    fun h => ⟨hreport.lostEvent h, hreport.lost.raised h⟩, fun h => ⟨hreport.lost.kept h, hreport.lasterr h⟩,
    hreport.lockedEvent, fun h => ⟨hreport.droppedEvent h, hreport.dropped.raised h⟩, hreport.dropped.kept, fun hq => ?nothing⟩
  case frame =>
    simp only [respond_rb4, respond_sync, respond_event, respond_lasterr, respond_cntSyncloss, respond_cntDropped, ← hreport.mfq]
    unfold respond
    rw [hchange.rsp]
    conv_lhs => rw [hchange]
  case nothing =>
    rw [hempty hq]
    have hvalue : syncValue (syncBegin s) = 0 := by simp [syncValue, syncBegin, flagAt]
    rw [hvalue]
    rfl

end Sys2Proof.Machine
end

section
/-! PROOFS of the families 60_exceptions.md and 70_reset_and_hazards.md: the rows of the exception table (R351, R352), LDBB's wrong
lengths (R359), the totality of a step (R362), the state after reset (R391) and the independence of sessions (R393). -/

namespace Sys2Proof.Machine

open Sys2Proof.Safety

/-! ### Every step answers (R362) -/

/-- Settles O6: every agent step has an effect, and with none pending nothing happens. -/
theorem everyStepAnswers : Obligations.EveryStepAnswers := by
  intro s
  obtain ⟨t, hstep, -⟩ := step_keeps (I := fun _ => True) (fun _ _ h => h) (fun _ _ _ h _ => h) (s := s) trivial
  exact ⟨t, hstep⟩

/-! ### The exception table (R351, R352) -/

/-- The spec's table is the model's code, sub-cause and event bit of each exception. -/
theorem mem_exceptionTable_iff (e : Exc) (c n b : Nat) :
    (e, c, n, b) ∈ exceptionTable ↔
      c = (excCode e).toNat ∧ n = (excSub e).toNat ∧ b = eventIndex (excEvent e) := by
  constructor
  · have hrows : ∀ row ∈ exceptionTable,
        row.2.1 = (excCode row.1).toNat ∧ row.2.2.1 = (excSub row.1).toNat ∧ row.2.2.2 = eventIndex (excEvent row.1) := by
      decide
    exact hrows (e, c, n, b)
  · rintro ⟨rfl, rfl, rfl⟩
    cases e with
    | configurationError c => cases c <;> decide
    | txChunkError c => cases c <;> decide
    | illegalCommand c => cases c <;> decide
    | _ => decide

theorem excRecord_eq (e : Exc) : excRecord e = BitVec.ofNat 32 ((excCode e).toNat + 256 * (excSub e).toNat) := by
  have hcode := (excCode e).isLt
  apply BitVec.eq_of_toNat_eq
  rw [excRecord, BitVec.toNat_setWidth, BitVec.toNat_append, BitVec.toNat_ofNat, ← Nat.shiftLeft_add_eq_or_of_lt hcode,
    Nat.shiftLeft_eq]
  omega

theorem eventMask_eq (b : EventBit) : eventMask b = BitVec.ofNat 32 (2 ^ eventIndex b) := by
  cases b <;> rfl

/-- What taking an exception writes, by its code (R351, R352). -/
theorem raiseExc_eq (e : Exc) (s : State) : raiseExc e s = { s with
    lasterr := BitVec.ofNat 32 ((excCode e).toNat + 256 * (excSub e).toNat)
    event := s.event ||| BitVec.ofNat 32 (2 ^ eventIndex (excEvent e))
    cntUncorr := if (excCode e).toNat = 2 then satInc s.cntUncorr else s.cntUncorr
    cntSyncloss := if (excCode e).toNat = 3 then satInc s.cntSyncloss else s.cntSyncloss
    cntUnderrun := if (excCode e).toNat = 4 then satInc s.cntUnderrun else s.cntUnderrun
    cntOverrun := if (excCode e).toNat = 5 then satInc s.cntOverrun else s.cntOverrun
    cntTxerr := if (excCode e).toNat = 6 then satInc s.cntTxerr else s.cntTxerr } := by
  rw [← excRecord_eq, ← eventMask_eq]
  cases e with
  | _ => rfl

theorem failWith_eq_record (e : Exc) (s : State) : failWith e s = .next { raiseExc e s with
    rsp := s.rsp ++ [⟨BitVec.ofNat 8 (0x80 + (excCode e).toNat), BitVec.ofNat 32 (excSub e).toNat⟩] } := by
  have hstatus : 0x80 + excCode e = BitVec.ofNat 8 (0x80 + (excCode e).toNat) := by
    rw [BitVec.ofNat_add, BitVec.ofNat_toNat, BitVec.setWidth_eq]
    rfl
  rw [failWith_eq, hstatus, BitVec.ofNat_toNat]
  rfl

/-- Settles O13: a row holds the code, the sub-cause and the event bit of its exception, and these fix what is written. -/
theorem exceptionEntry : Obligations.ExceptionEntry := by
  refine ⟨fun e => ⟨_, _, _, (mem_exceptionTable_iff e _ _ _).2 ⟨rfl, rfl, rfl⟩⟩, fun s e c n b hrow => ?row⟩
  case row =>
    obtain ⟨rfl, rfl, rfl⟩ := (mem_exceptionTable_iff e c n b).1 hrow
    exact ⟨raiseExc_eq e s, failWith_eq_record e s⟩

/-! ### A chunk of a wrong length (R359) -/

section
variable {s : State} {p : Prof} {c : List Byte} {rest : List (List Byte)} (hp : s.session = .active p) (hout : s.tb0 = none)
  (hin : s.bbin = c :: rest)
include hp hout hin

theorem exec_ldbb_short (hlen : c.length < p.chunkBytes) :
    exec .ldbb s = failWith (.txChunkError .short) { s with bbin := rest } := by
  simp only [exec, execLdbb, whenActive_active hp, hout, hin, if_pos hlen]

theorem exec_ldbb_long (hlen : p.chunkBytes < c.length) :
    exec .ldbb s = failWith (.txChunkError .long) { s with bbin := rest } := by
  simp only [exec, execLdbb, whenActive_active hp, hout, hin, if_neg (not_lt.2 hlen.le), gt_iff_lt, if_pos hlen]

end

/-- Settles O24: a chunk of another length is consumed and the exception of its length taken. -/
theorem ldbbRejectsWrongLength : Obligations.LdbbRejectsWrongLength := by
  intro s p c rest hp hout hin
  refine ⟨fun hlen => ?short, fun hlen => ?long⟩
  case short =>
    rw [exec_ldbb_short hp hout hin hlen]
    rfl
  case long =>
    rw [exec_ldbb_long hp hout hin hlen]
    rfl

/-! ### The state after reset (R391) -/

theorem statRead_resetCore (s : State) (i : Nat) : statRead (resetCore s) i = statRead State.reset i := rfl

/-- Settles O15: RESET and hardware reset have one effect, `resetCore`, which has the items of `State.reset` apart from `ROM` and
the ports. -/
theorem resetRestores : Obligations.ResetRestores := by
  intro s
  have hstatus : ∀ i, i ≤ 21 → statRead (resetCore s) i = 0 := by
    have hreset : ∀ i < 22, statRead State.reset i = 0 := by decide
    exact fun i hi => (statRead_resetCore s i).trans (hreset i (by omega))
  exact ⟨resetCore s, rfl, rfl, rfl, rfl, rfl, rfl, rfl, rfl, rfl, rfl, rfl, rfl, rfl, rfl, rfl, rfl, rfl, rfl, rfl, rfl,
    rfl, rfl, rfl, rfl, rfl, rfl, rfl, rfl, rfl, rfl, rfl, hstatus⟩

theorem sound_resetCore (s : State) : sound (resetCore s) = true := by
  have hsession : sessionSound (resetCore s) = true := rfl
  have htx : txFramesFit (resetCore s) = true := rfl
  have hrx : rxFramesFit (resetCore s) = true := rfl
  have hqueues : queuesFit (resetCore s) = true := queuesFit_iff.2 ⟨Nat.zero_le _, Nat.zero_le _, Nat.zero_le _⟩
  have hsync : syncSound (resetCore s) = true := rfl
  simp only [sound, hsession, htx, hrx, hqueues, hsync, idleClean_resetCore, flagsSound_resetCore, Bool.and_self]

/-- Settles O59: `State.reset` is its own reset, with any `ROM`, and a reset leaves a sound state. -/
theorem resetIsSound : Obligations.ResetIsSound :=
  ⟨sound_resetCore State.reset, fun rom => sound_resetCore { State.reset with rom := rom },
    fun s => ⟨resetCore s, rfl, sound_resetCore s⟩⟩

/-! ### Sessions are independent (R393) -/

/-- The state after STOP, as far as it belongs to the session: `ROM` and the configuration, all else at reset. -/
def stopped (s : State) : State := { State.reset with rom := s.rom, cfg := s.cfg }

/-- START after STOP: its checks, the profile it latches and the session it begins are those of `stopped s`. -/
theorem exec_start_stopped (s : State) : ∃ u, exec .start (respond 0x00 0 (stopSession s)) = .next u ∧
    sessionPart u = match startCheck (stopped s) with
      | .error _ => sessionPart (stopped s)
      | .ok (r, taps) => sessionPart (beginSession (latchProfile (stopped s) r taps) (stopped s)) := by
  have hsame : startCheck (respond 0x00 0 (stopSession s)) = startCheck (stopped s) := rfl
  cases hcheck : startCheck (stopped s) with
  | error c => exact ⟨_, exec_start_error rfl (hsame.trans hcheck), rfl⟩
  | ok x => exact ⟨_, exec_start_ok rfl (hsame.trans hcheck), rfl⟩

/-- Settles O20: after STOP and START the session's part is a function of `ROM` and the configuration. -/
theorem sessionsIndependent : Obligations.SessionsIndependent := by
  intro s s' hrom hcfg
  have hstopped : stopped s = stopped s' := by rw [stopped, stopped, hrom, hcfg]
  obtain ⟨u, hstart, hu⟩ := exec_start_stopped s
  obtain ⟨u', hstart', hu'⟩ := exec_start_stopped s'
  exact ⟨_, _, u, u', rfl, rfl, hstart, hstart', by rw [hu, hu', hstopped]⟩

end Sys2Proof.Machine
end
